-- ==== Sys2Proof/Word.lean ====
section
/-! DEFINITION. The word types of the LC32: bytes, 32-bit words, line and block numbers. -/

namespace Sys2Proof

/-- A byte of a record or of a console's stream. -/
abbrev Byte := BitVec 8

/-- A word is 32 bits (00_scope.md, Conventions). -/
abbrev Word := BitVec 32

/-- Lines are numbered 0 to 31. -/
abbrev LineNo := Fin 32

/-- Script blocks are numbered 0 to 15. -/
abbrev BlockNo := Fin 16

end Sys2Proof
end

