-- ==== Sys2Proof/Syntax.lean ====
section
/-! DEFINITION. The commands of the LC32: one constructor of Instr per row of spec/opcode_table.json, in its order. -/

namespace Sys2Proof

/-- A pattern record as its 32 bytes hold it (13_record_layouts.md, Script image records; R44). -/
structure PatternRecord where
  length    : Byte
  foldCase  : Byte
  lineStart : Byte
  wildcards : Word
  chars     : List Byte
  deriving DecidableEq, Repr

/-- The fields of a line record's host section, as read (13_record_layouts.md, Line record). -/
structure LineHost where
  enable       : Word
  taken        : Word
  fill         : Word
  claim        : Word
  tag          : Word
  code         : Word
  argA         : Word
  argB         : Word
  captureBase  : Word
  captureSize  : Word
  outboundBase : Word
  outboundSize : Word
  bitPeriod    : Word
  fallback     : Word
  detectLimit  : Word
  holdLimit    : Word
  tolerance    : Word
  charGap      : Word
  lineGap      : Word
  absentTime   : Word
  dataBits     : Byte
  parity       : Byte
  stopBits     : Byte
  rateMode     : Byte
  flow         : Byte
  rawAllowed   : Byte
  captureMode  : Byte
  trigger      : PatternRecord
  deriving DecidableEq, Repr

/-- The width of a register write (R194). -/
inductive Width where
  | word | half | byte
  deriving DecidableEq, Repr

/-- The part of a register a read addresses (R194): the word, a half-word, or a byte. -/
inductive Lane where
  | word
  | half (upper : Bool)
  | byte (k : Fin 4)
  deriving DecidableEq, Repr

/-- A sample point of a line's receiver, as the command of it gives it. `rises`: RXD rises on the sample's own tick, and
its edge command is still to come (R52; log 4). -/
structure SamplePoint where
  line  : LineNo
  rises : Bool
  deriving DecidableEq, Repr

/-- One constructor per row of the table. Operands are explained in INVENTORY.md, Instructions, and log entries
3 (ticks), 4 (SamplePoint), 5 (bytes), 8 (requests) and 27 (CONTROL writes). -/
inductive Instr where
  -- resets and registers
  | pinReset
  | resetnRise
  /-- A CONTROL write with SOFT_RESET 1; `others` are its other bits, which are ignored (R186). -/
  | softReset (others : Word)
  /-- A CONTROL write with RUN 1 and SOFT_RESET 0, and its other two bits (R186). -/
  | runWritten1 (intEnable sweepNow : Bool)
  | runWritten0 (intEnable sweepNow : Bool)
  | sweepNow (run intEnable : Bool)
  | intEnable (value run sweepNow : Bool)
  | stationBaseWrite (addr : Word)
  | noticeRead (lane : Lane)
  | faultStateWrite (value : Word)
  | registerWriteIgnored (offset : Nat) (width : Width) (value : Word)
  -- time
  | timeBaseAdvance
  -- console line events; `ticks` counts reference ticks since the line's previous change of RXD
  | rxdFall (n : LineNo) (ticks : Nat)
  | rxdRise (n : LineNo) (ticks : Nat)
  | absentTimeExpiry (n : LineNo)
  | markingTimerExpiry (n : LineNo)
  | characterDelivered (p : SamplePoint)
  | runJudged (n : LineNo)
  | detectLimitExpiry (n : LineNo)
  | characterStart (n : LineNo)
  | characterEnd (n : LineNo)
  | gapExpiry (n : LineNo)
  | holdLimitExpiry (n : LineNo)
  | breakTimerExpiry (n : LineNo)
  | pulseTimerExpiry (n : LineNo)
  -- step timers and waits
  | stepTimerExpiry (n : LineNo)
  | quietExpiry (n : LineNo)
  | elapseExpiry (n : LineNo)
  -- step actions
  | noneAction (n : LineNo)
  | send (n : LineNo)
  | breakAction (n : LineNo)
  | pulseAction (n : LineNo)
  | driveActiveAction (n : LineNo)
  | driveRestAction (n : LineNo)
  | setRate (n : LineNo)
  | detectRate (n : LineNo)
  | armTriggerAction (n : LineNo)
  | signal (n : LineNo)
  | loadCounter (n : LineNo)
  | countDown (n : LineNo)
  -- the sweep and the station requests
  | sweepTimerExpiry
  | sweepStart
  | headerReadComplete (bytes : List Byte)
  | loadRequest (tag blockIndex source : Word)
  | unloadRequest (tag blockIndex : Word)
  | unknownStationCode (tag code : Word)
  | lineRecordReadComplete (bytes : List Byte)
  -- the line requests
  | startRequest (n : LineNo) (tag block entry : Word)
  | pauseRequest (n : LineNo) (tag : Word)
  | resumeRequest (n : LineNo) (tag : Word)
  | abortRequest (n : LineNo) (tag : Word)
  | breakRequest (n : LineNo) (tag length : Word)
  | pulseRequest (n : LineNo) (tag width : Word)
  | driveActiveRequest (n : LineNo) (tag : Word)
  | driveRestRequest (n : LineNo) (tag : Word)
  | applyRequest (n : LineNo) (tag : Word) (host : LineHost)
  | detectRequest (n : LineNo) (tag : Word)
  | armTriggerRequest (n : LineNo) (tag post : Word) (pattern : PatternRecord)
  | disarmRequest (n : LineNo) (tag : Word)
  | thawRequest (n : LineNo) (tag : Word)
  | unknownCodeRequest (n : LineNo) (tag code : Word)
  -- the start, the bus and the completions
  | startHeaderReadComplete (bytes : List Byte)
  | holdaRise
  | grantTimeout
  | accessTimeout
  | busError
  | lateBusAnswer
  | captureWriteComplete
  | outboundFetchComplete (bytes : List Byte)
  | reportWriteComplete
  | loadReadComplete (bytes : List Byte)
  | stopWindUpComplete
  | startCheck (p : SamplePoint)
  | holdaFall
  deriving DecidableEq, Repr

end Sys2Proof
end

