-- ==== Sys2Proof/Decode.lean ====
section
/-! DEFINITION. Reading a command: from a word by the table's bits, of which no row of spec/opcode_table.json gives any;
and from a write of the register window (R186, R194). -/

namespace Sys2Proof

/-- The command a word spells by the table's bits. Every row's "fields" is empty and none has fixed bits
(98_reader.md: n_rows_with_fixed 0), so the answer is none. -/
def decodeTableWord (_nbits _w : Nat) : Option Instr := none

/-- A write of the word v to CONTROL: RUN is bit 0, INT_ENABLE bit 1, SWEEP_NOW bit 2, SOFT_RESET bit 3 (R194). Every
other bit is without effect, the Part State field among them. With SOFT_RESET 1 the other bits are ignored (R186). The
rows INT_ENABLE and SWEEP_NOW are the same write under another name (log 27). -/
def controlRow (v : Word) : Instr :=
  let run := v.getLsbD 0
  let intEnable := v.getLsbD 1
  let sweepNow := v.getLsbD 2
  if v.getLsbD 3 then .softReset v
  else if run then .runWritten1 intEnable sweepNow
  else .runWritten0 intEnable sweepNow

/-- A write of v at an offset of the register window (R184, R194): a word to STATION_BASE, CONTROL or FAULT_STATE acts;
a narrower one, and one to any other offset, is ignored. -/
def registerWrite (offset : Nat) (width : Width) (v : Word) : Instr :=
  match width, offset with
  | .word, 0x04 => .stationBaseWrite v
  | .word, 0x08 => controlRow v
  | .word, 0x10 => .faultStateWrite v
  | _, _ => .registerWriteIgnored offset width v

end Sys2Proof
end

