-- ==== Sys2Proof/Machine/State.lean ====
section
/-! DEFINITION. The state of the LC32 as plain data, the reasons a step can stop, and the state after reset. -/

namespace Sys2Proof.Machine

/-- A millisecond timer: stopped (none), or the number of Time Base advances still to come before its expiry falls
(R160). At some 0 the expiry is due and waits to be taken. -/
abbrev Timer := Option Nat

/-! ## Settings of a line (R6) -/

inductive DataBits where | seven | eight
  deriving DecidableEq, Repr
inductive Parity where | none | even | odd
  deriving DecidableEq, Repr
inductive StopBits where | one | two
  deriving DecidableEq, Repr
inductive RateMode where | fixed | detectOnEnable
  deriving DecidableEq, Repr
inductive Flow where | none | xonxoff
  deriving DecidableEq, Repr
inductive CaptureMode where | hold | roll
  deriving DecidableEq, Repr

/-- The settings copy of a Line Unit (R6), every number already clamped. -/
structure Settings where
  dataBits     : DataBits
  parity       : Parity
  stopBits     : StopBits
  rateMode     : RateMode
  bitPeriod    : Nat
  fallback     : Nat
  tolerance    : Nat
  rawAllowed   : Bool
  detectLimit  : Nat
  flow         : Flow
  holdLimit    : Nat
  charGap      : Nat
  lineGap      : Nat
  absentTime   : Nat
  captureBase  : Word
  captureSize  : Nat
  captureMode  : CaptureMode
  outboundBase : Word
  outboundSize : Nat
  deriving DecidableEq, Repr

/-- The reset values of R6. -/
def Settings.reset : Settings where
  dataBits := .eight
  parity := .none
  stopBits := .one
  rateMode := .fixed
  bitPeriod := 3072
  fallback := 3072
  tolerance := 30
  rawAllowed := false
  detectLimit := 20000
  flow := .none
  holdLimit := 0
  charGap := 0
  lineGap := 0
  absentTime := 2000
  captureBase := 0
  captureSize := 0
  captureMode := .hold
  outboundBase := 0
  outboundSize := 0

/-! ## Receiver, transmitter and condition monitor -/

inductive LineStatus where | off | on | configBad
  deriving DecidableEq, Repr
inductive LineRefusal where | none | format | captureRing | outboundRing
  deriving DecidableEq, Repr
inductive Condition where | marking | spacing
  deriving DecidableEq, Repr
inductive Owner where | free | operator | script | lent
  deriving DecidableEq, Repr

/-- A receive frame in progress (R10 to R12), timed with the period and format in force at its start edge (R9).
`samples` holds the levels sampled so far: start check, data bits, parity bit, stop bit, in that order. -/
structure Frame where
  period   : Nat
  dataBits : DataBits
  parity   : Parity
  elapsed  : Nat        -- ticks from the start edge to the latest edge of RXD
  checked  : Bool       -- the start check has passed
  samples  : List Bool
  counted  : Bool       -- the start edge came after the latest adoption (R37)
  unbroken : Bool       -- RXD has not risen since the start edge (R23)
  deriving DecidableEq, Repr

/-- Who supplied the character being sent (R16, R108, R150). -/
inductive TxSource where | operator | script | nobody
  deriving DecidableEq, Repr

/-- A character being sent, with the transmit period and format of its start (R9, R15). `leftover` marks a character
begun before the line's last OFF that is still finishing after the line went ON again (R4). -/
structure TxChar where
  byte     : Byte
  source   : TxSource
  period   : Nat
  dataBits : DataBits
  parity   : Parity
  stopBits : StopBits
  leftover : Bool
  deriving DecidableEq, Repr

/-- A break order (R19): its length in ms and whether a step's BREAK action gave it (else a BREAK request did). -/
structure BreakOrder where
  length : Nat
  byStep : Bool
  deriving DecidableEq, Repr

/-- The five transmitter states of R15. -/
inductive Tx where
  | idle
  | sending (c : TxChar)
  | gap (timer : Timer)
  | brk (order : BreakOrder) (timer : Timer)
  | held
  deriving DecidableEq, Repr

/-! ## Rate Finder (R25, R30, R31) -/

inductive DetectState where | none | queued | measuring | verifying
  deriving DecidableEq, Repr
inductive DetectOutcome where | none | settled | settledUnverified | failed | cancelled
  deriving DecidableEq, Repr

/-- Adoption (R25): none, an entry of the Standard Rate Table by its place (entry e + 1 of R33), or RAW. -/
inductive Adoption where
  | none
  | entry (e : Fin 12)
  | raw
  deriving DecidableEq, Repr

/-- A measurement in progress (R30, R31). `edge`: the latest edge waits for its sixteen ticks. `ticks`: ticks from
the last edge that stands to the latest edge. -/
structure Measurement where
  begun : Bool
  edge  : Bool
  ticks : Nat
  deriving DecidableEq, Repr

/-- The detection record of a line (R25). Bit e of `rejected` stands for entry e + 1 of R33. -/
structure Detection where
  state     : DetectState
  attempts  : Nat
  rejected  : BitVec 12
  counted   : Nat
  least     : Option Nat
  measured  : Option Nat
  adoption  : Adoption
  verified  : Nat
  outcome   : DetectOutcome
  concluded : Word
  bound     : Bool
  limit     : Timer
  meas      : Measurement
  deriving DecidableEq, Repr

def Measurement.idle : Measurement := ⟨false, false, 0⟩

def Detection.reset : Detection where
  state := .none
  attempts := 0
  rejected := 0
  counted := 0
  least := none
  measured := none
  adoption := .none
  verified := 0
  outcome := .none
  concluded := 0
  bound := false
  limit := none
  meas := .idle

/-! ## Patterns and capture (R44, R61) -/

/-- A pattern in force: Length 1 to 24, its characters, Wildcard Set (bit p - 1 for position p), Fold Case and
Line Start (R44). -/
structure Pattern where
  length    : Nat
  chars     : List Byte
  wild      : Word
  foldCase  : Bool
  lineStart : Bool
  deriving DecidableEq, Repr

inductive TriggerState where | off | armed | counting | frozen
  deriving DecidableEq, Repr

/-- The capture state of a line (R61). -/
structure Capture where
  fifo      : List Byte
  head      : Word
  tail      : Word
  taken     : Word       -- Taken In Force
  dropped   : Nat
  half      : Bool       -- Half Reached
  lapped    : Bool
  trigger   : TriggerState
  pattern   : Option Pattern
  post      : Nat        -- Post Count
  lead      : Nat
  remaining : Nat
  matchTime : Word
  draining  : Bool
  deriving DecidableEq, Repr

def Capture.reset : Capture where
  fifo := []
  head := 0
  tail := 0
  taken := 0
  dropped := 0
  half := false
  lapped := false
  trigger := .off
  pattern := none
  post := 0
  lead := 0
  remaining := 0
  matchTime := 0
  draining := false

/-! ## Script Runner (R103) -/

inductive PausedFrom where | acting | waiting
  deriving DecidableEq, Repr

/-- Runner State with Paused From inside it, as 13_record_layouts.md encodes the two. -/
inductive RunnerState where
  | idle | queued | acting | waiting
  | paused (from_ : PausedFrom)
  deriving DecidableEq, Repr

inductive MatchPhase where | a | b
  deriving DecidableEq, Repr
inductive ActionEnd where | completed | failed
  deriving DecidableEq, Repr
inductive TrailExit where
  | success | alternate | timeout | failure | endedByAbort | endedByStop | endedByLineOff | runaway
  deriving DecidableEq, Repr
inductive OutcomeKind where | completed | aborted | stopped | lineOff | runaway
  deriving DecidableEq, Repr
inductive FailureReason where | none | locked | counterZero | frozen | detectFailed
  deriving DecidableEq, Repr

/-- One entry of the Step Trail (R123). -/
structure TrailEntry where
  step : Nat
  exit : TrailExit
  time : Word
  deriving DecidableEq, Repr

/-- The record of how the last run ended (R124). -/
structure RunOutcome where
  kind     : OutcomeKind
  code     : Byte
  lastStep : Nat
  exit     : TrailExit
  time     : Word
  deriving DecidableEq, Repr

/-- The runner of a line (R103). `begun` is the model's own: the action of the step in progress has begun
(log entry 7). -/
structure Runner where
  state        : RunnerState
  block        : BlockNo
  entry        : Nat
  current      : Nat
  counter      : Nat
  immediate    : Nat
  textOffset   : Nat
  actionResult : Option ActionEnd
  stepTimer    : Timer
  waitTimer    : Timer
  countLeft    : Nat        -- Count Remaining
  phase        : MatchPhase
  trail        : List TrailEntry
  last         : Option RunOutcome
  failure      : FailureReason
  signalCode   : Nat
  signalTime   : Word
  begun        : Bool
  deriving DecidableEq, Repr

def Runner.reset : Runner where
  state := .idle
  block := 0
  entry := 0
  current := 0
  counter := 0
  immediate := 0
  textOffset := 0
  actionResult := none
  stepTimer := none
  waitTimer := none
  countLeft := 0
  phase := .a
  trail := []
  last := none
  failure := .none
  signalCode := 0
  signalTime := 0
  begun := true

/-! ## Rack output (R132) -/

inductive OutputState where | rest | active | pulsing
  deriving DecidableEq, Repr
inductive PulseEnd where | none | expired | cut
  deriving DecidableEq, Repr

structure Output where
  state : OutputState
  time  : Word
  width : Nat
  timer : Timer
  ended : PulseEnd
  deriving DecidableEq, Repr

def Output.reset : Output := ⟨.rest, 0, 0, none, .none⟩

/-! ## A line -/

/-- Request Result codes (13_record_layouts.md, Codes). -/
inductive ReqResult where
  | none | accepted | notIdle | blockNotReady | stepRange | lineOff | notRunning | notPaused | owner | busy | locked
  | scriptRunning | invalid | frozen | unknownCode
  deriving DecidableEq, Repr

/-- Everything the part holds for one line but its report bookkeeping and its pending causes. -/
structure Line where
  status        : LineStatus
  refusal       : LineRefusal
  settings      : Settings
  clamped       : Bool
  period        : Nat
  rxd           : Bool
  frame         : Option Frame
  tx            : Tx
  breaks        : List BreakOrder
  flowHeld      : Bool
  holdTimer     : Timer
  condition     : Condition
  conditionTime : Word
  breakTime     : Word
  lowRun        : Bool       -- a low run that began in MARKING is in progress
  runWithheld   : Bool       -- the frame that low run began was withheld as all-low
  absentTimer   : Timer
  markTimer     : Timer
  garble        : Nat
  owner         : Owner
  ownerInForce  : Owner
  claim         : Bool
  claimSeen     : Bool
  staging       : List Byte
  sent          : Word
  fillSeen      : Word
  det           : Detection
  history       : List Byte
  scriptFresh   : Nat
  trigFresh     : Nat
  cap           : Capture
  run           : Runner
  out           : Output
  takenTag      : Option Word
  result        : ReqResult
  deriving DecidableEq, Repr

def Line.reset : Line where
  status := .off
  refusal := .none
  settings := .reset
  clamped := false
  period := 3072
  rxd := true
  frame := none
  tx := .idle
  breaks := []
  flowHeld := false
  holdTimer := none
  condition := .marking
  conditionTime := 0
  breakTime := 0
  lowRun := false
  runWithheld := false
  absentTimer := none
  markTimer := none
  garble := 0
  owner := .free
  ownerInForce := .free
  claim := false
  claimSeen := false
  staging := []
  sent := 0
  fillSeen := 0
  det := .reset
  history := []
  scriptFresh := 0
  trigFresh := 0
  cap := .reset
  run := .reset
  out := .reset
  takenTag := none
  result := .none

/-! ## Script Store (R83 to R98) -/

inductive BlockState where | empty | loading | ready
  deriving DecidableEq, Repr

/-- An exit of a step: Exit Kind code and Exit Value (R88). -/
structure StepExit where
  kind  : Byte
  value : Byte
  deriving DecidableEq, Repr

/-- A step record with the codes and numbers as loaded (13_record_layouts.md; R86 to R89). -/
structure StepRecord where
  action     : Byte
  wait       : Byte
  patternA   : Byte
  patternB   : Byte
  actionArg  : Word
  waitArg    : Word
  timeout    : Word
  success    : StepExit
  alternate  : StepExit
  timedOut   : StepExit
  failure    : StepExit
  textLength : Byte
  text       : List Byte
  deriving DecidableEq, Repr

structure Block where
  state        : BlockState
  stepCount    : Nat
  patternCount : Nat
  useCount     : Nat
  steps        : List StepRecord
  patterns     : List PatternRecord
  deriving DecidableEq, Repr

def Block.reset : Block := ⟨.empty, 0, 0, 0, [], []⟩

/-- The Loader while it is busy (R94, R96): its block and source, the next transaction 0 to 36, and the remembered
words of the image header. Its Running Sum stands in the Store, for it has a value while the Loader is idle too (R101). -/
structure Loader where
  block        : BlockNo
  source       : Word
  next         : Nat
  stepCount    : Word
  patternCount : Word
  checksum     : Word
  deriving DecidableEq, Repr

inductive LoadResult where
  | none | loaded | checksumBad | countBad | stepBad | patternBad | memoryFault | cancelled
  deriving DecidableEq, Repr

structure Store where
  blocks     : Vector Block 16
  loader     : Option Loader
  sum        : Word        -- the Loader's Running Sum
  loadResult : LoadResult
  loadBlock  : Nat
  loadIndex  : Nat
  deriving DecidableEq, Repr

def Store.reset : Store := ⟨Vector.replicate 16 .reset, none, 0, .none, 0, 0⟩

/-! ## Scanner, Report Writer, Memory Port, Notice Unit -/

/-- A record of the Station Area: the header or a line record (R158). -/
inductive Record where
  | header
  | line (n : LineNo)
  deriving DecidableEq, Repr

inductive StationResult where | none | accepted | inUse | badBlock | badAddress | unknownCode
  deriving DecidableEq, Repr

/-- The Station Scanner (R161, R166). -/
structure Scanner where
  interval : Nat
  timer    : Timer
  pending  : Bool
  position : Option Record
  lastTime : Word
  tag      : Option Word
  result   : StationResult
  deriving DecidableEq, Repr

def Scanner.reset : Scanner := ⟨10, none, false, none, 0, none, .none⟩

/-- The Report Writer (R169). Cause sets are bit sets, in the order of R188. -/
structure Reports where
  dirty          : Vector Bool 32
  headerDirty    : Bool
  held           : Vector (BitVec 12) 32
  heldStation    : BitVec 4
  carried        : BitVec 12
  carriedStation : BitVec 4
  position       : Record
  deriving DecidableEq, Repr

def Reports.reset : Reports :=
  ⟨Vector.replicate 32 false, false, Vector.replicate 32 0, 0, 0, 0, .header⟩

inductive Client where | scanner | capture | fetcher | report | loader
  deriving DecidableEq, Repr
inductive BusState where | idle | requesting | holding
  deriving DecidableEq, Repr
inductive FaultKind where | none | grant | access | error
  deriving DecidableEq, Repr

/-- What a transaction is for; it determines the client and whether it reads or writes (R175). -/
inductive Job where
  | startHeader
  | sweepHeader
  | sweepLine (n : LineNo)
  | capture (n : LineNo)
  | fetch (n : LineNo)
  | reportHeader
  | reportLine (n : LineNo)
  | load (k : Nat)
  deriving DecidableEq, Repr

/-- The Transaction In Flight (R174), with the bytes of a write. `stale`: its completion is to be discarded (R79,
R100, R149, R167, R187). -/
structure Transaction where
  job    : Job
  addr   : Word
  length : Nat
  data   : List Byte
  stale  : Bool
  deriving DecidableEq, Repr

/-- The Memory Port (R174), the HOLDA pin it watches, and the client a GRANT fault is charged to (R179). -/
structure Port where
  bus         : BusState
  tenure      : Nat
  lastServed  : Client
  inFlight    : Option Transaction
  flag        : Bool
  faultKind   : FaultKind
  faultClient : Option Client
  faultAddr   : Word
  holda       : Bool
  grantClient : Option Client
  deriving DecidableEq, Repr

def Port.reset : Port := ⟨.idle, 0, .loader, none, false, .none, none, 0, false, none⟩

/-- The Notice Unit (R188) and the value the last NOTICE read returned. -/
structure Notices where
  line        : Vector (BitVec 12) 32
  station     : BitVec 4
  lineMask    : BitVec 12
  stationMask : BitVec 4
  lastRead    : Word
  deriving DecidableEq, Repr

def Notices.reset : Notices := ⟨Vector.replicate 32 0, 0, 0, 0, 0x003F0000⟩

inductive PartState where | halted | starting | running | stopping
  deriving DecidableEq, Repr

/-- CONTROL, STATION_BASE and RESETN (R184, R185, R193). `windUp`: the stop's wind-up is complete and the header
shows HALTED (R192). -/
structure Control where
  part      : PartState
  windUp    : Bool
  inReset   : Bool
  intEnable : Bool
  base      : Word
  deriving DecidableEq, Repr

def Control.reset : Control := ⟨.halted, false, false, false, 0⟩

/-- The Time Base (R159): its value, the place in the five-advance cycle of the advance to come, and the reference
ticks from the reset to the latest advance. -/
structure Clock where
  ms    : Word
  cycle : Nat
  ticks : Nat
  deriving DecidableEq, Repr

def Clock.reset : Clock := ⟨0, 0, 0⟩

/-! ## The machine -/

/-- The whole LC32, and the queue of commands waiting, first in first out. -/
structure State where
  lines        : Vector Line 32
  store        : Store
  scan         : Scanner
  reports      : Reports
  port         : Port
  notices      : Notices
  ctl          : Control
  clock        : Clock
  linesInUse   : Nat
  lockSet      : Word
  queue        : List LineNo    -- the Detect Queue (R28)
  slots        : List LineNo    -- the lines holding a measurement slot (R29)
  capturePos   : LineNo         -- the Capture Writer's round-robin pointer (R64)
  fetchPos     : LineNo         -- the Outbound Fetcher's (R148)
  pending      : List Instr
  deriving DecidableEq, Repr

/-- No event of the spec stops the machine, so there is no fault: a Memory Port fault is state (R174, R179). -/
inductive Fault where
  deriving DecidableEq, Repr

/-- Why a command has no meaning here. -/
inductive Refusal where
  /-- Raised by an arm of exec whose command is not modelled yet. Safe: the model stops. -/
  | notModelled (mnemonic : String)
  deriving DecidableEq, Repr

/-- The machine right after a pin reset has ended: HALTED, every field at the reset value its rule states. -/
def State.reset : State where
  lines := Vector.replicate 32 .reset
  store := .reset
  scan := .reset
  reports := .reset
  port := .reset
  notices := .reset
  ctl := .reset
  clock := .reset
  linesInUse := 0
  lockSet := 0
  queue := []
  slots := []
  capturePos := 0
  fetchPos := 0
  pending := []

end Sys2Proof.Machine
end

