-- ==== Sys2Proof/Machine/Ops.lean ====
section
/-! DEFINITION. The shared operations over lines, timers, counts, reports and notices. -/

namespace Sys2Proof.Machine

/-! ## Numbers -/

/-- Clamped: replaced by the nearer end of its range (00_scope.md, Out-of-range values). -/
def clamp (lo hi v : Nat) : Nat := if v < lo then lo else if hi < v then hi else v

/-- The distance from count a to count b, modulo 2^32 (00_scope.md, Memory counts). -/
def dist (a b : Word) : Nat := (b - a).toNat

/-- A count moved on by n, modulo 2^32. -/
def addCount (a : Word) (n : Nat) : Word := a + BitVec.ofNat 32 n

/-- A count that saturates at hi (00_scope.md, Counts that saturate). -/
def satAdd (hi a n : Nat) : Nat := min hi (a + n)

/-! ## Millisecond timers (R160) -/

/-- A timer of t ms started now expires at the (t+1)-th advance from here. -/
def timerStart (t : Nat) : Timer := some (t + 1)

/-- One Time Base advance; a timer whose expiry is due stays due. -/
def timerTick (t : Timer) : Timer := t.map (· - 1)

/-- The expiry has fallen and waits to be taken. -/
def timerDue (t : Timer) : Bool := t == some 0

/-! ## Lines -/

def State.line (s : State) (n : LineNo) : Line := s.lines.get n

def State.setLine (s : State) (n : LineNo) (l : Line) : State := { s with lines := s.lines.set n.val l n.isLt }

def State.modLine (s : State) (n : LineNo) (f : Line → Line) : State := s.setLine n (f (s.line n))

def State.modRun (s : State) (n : LineNo) (f : Runner → Runner) : State :=
  s.modLine n fun l => { l with run := f l.run }

def State.modDet (s : State) (n : LineNo) (f : Detection → Detection) : State :=
  s.modLine n fun l => { l with det := f l.det }

def State.modCap (s : State) (n : LineNo) (f : Capture → Capture) : State :=
  s.modLine n fun l => { l with cap := f l.cap }

/-- The Time Base's present value, which every time stamp records (R159). -/
def State.now (s : State) : Word := s.clock.ms

/-- The line takes part in the run (R1). -/
def State.inUse (s : State) (n : LineNo) : Bool := decide (n.val < s.linesInUse)

def State.isOn (s : State) (n : LineNo) : Bool := (s.line n).status == .on

/-- The line is in the Lock Set (R138). -/
def State.locked (s : State) (n : LineNo) : Bool := s.lockSet.getLsbD n.val

/-! ## Blocks -/

def State.block (s : State) (b : BlockNo) : Block := s.store.blocks.get b

def State.modBlock (s : State) (b : BlockNo) (f : Block → Block) : State :=
  { s with store := { s.store with blocks := s.store.blocks.set b.val (f (s.block b)) b.isLt } }

/-! ## Dirty records and causes (R170) -/

/-- The twelve line causes, in the order of R188. -/
inductive LineCause where
  | scriptEnded | scriptSignal | requestTaken | conditionChanged | breakSeen | rateConcluded | captureFrozen
  | captureHalf | captureLapped | dataDropped | outputDone | lineRefused
  deriving DecidableEq, Repr

/-- The cause's bit in a Cause Set (13_record_layouts.md). -/
def LineCause.bits : LineCause → BitVec 12
  | .scriptEnded => 0x001
  | .scriptSignal => 0x002
  | .requestTaken => 0x004
  | .conditionChanged => 0x008
  | .breakSeen => 0x010
  | .rateConcluded => 0x020
  | .captureFrozen => 0x040
  | .captureHalf => 0x080
  | .captureLapped => 0x100
  | .dataDropped => 0x200
  | .outputDone => 0x400
  | .lineRefused => 0x800

/-- The four station causes, in the order of R188. -/
inductive StationCause where
  | stationRequestTaken | loadConcluded | memoryFault | stopped
  deriving DecidableEq, Repr

def StationCause.bits : StationCause → BitVec 4
  | .stationRequestTaken => 0x1
  | .loadConcluded => 0x2
  | .memoryFault => 0x4
  | .stopped => 0x8

/-- Mark the line's report dirty. -/
def State.mark (s : State) (n : LineNo) : State :=
  { s with reports := { s.reports with dirty := s.reports.dirty.set n.val true n.isLt } }

/-- Mark the line's report dirty if b. -/
def State.markIf (s : State) (n : LineNo) (b : Bool) : State := if b then s.mark n else s

/-- Mark the header dirty. -/
def State.markHeader (s : State) : State := { s with reports := { s.reports with headerDirty := true } }

/-- Raise a line cause: it is held for the write that carries the change it announces, and the report is dirty. -/
def State.raise (s : State) (n : LineNo) (c : LineCause) : State :=
  { s with reports := { s.reports with
      dirty := s.reports.dirty.set n.val true n.isLt
      held := s.reports.held.set n.val (s.reports.held.get n ||| c.bits) n.isLt } }

def State.raiseIf (s : State) (n : LineNo) (c : LineCause) (b : Bool) : State := if b then s.raise n c else s

/-- Raise a station cause: held with the header, which is dirty. MEMORY_FAULT does not go this way (R170). -/
def State.raiseStation (s : State) (c : StationCause) : State :=
  { s with reports := { s.reports with
      headerDirty := true
      heldStation := s.reports.heldStation ||| c.bits } }

/-! ## The Notice Unit (R188 to R190) -/

/-- Line causes arrive for a source: those in the mask join its pending set, the others are discarded. -/
def State.recordLine (s : State) (n : LineNo) (cs : BitVec 12) : State :=
  { s with notices := { s.notices with
      line := s.notices.line.set n.val (s.notices.line.get n ||| (cs &&& s.notices.lineMask)) n.isLt } }

/-- Station causes arrive; MEMORY_FAULT is recorded whatever the mask. -/
def State.recordStation (s : State) (cs : BitVec 4) : State :=
  { s with notices := { s.notices with
      station := s.notices.station ||| (cs &&& (s.notices.stationMask ||| StationCause.memoryFault.bits)) } }

/-- Some pending set is not empty. -/
def Notices.any (u : Notices) : Bool := u.line.toList.any (· != 0) || u.station != 0

/-- The IRQ output (R190). -/
def State.irq (s : State) : Bool := s.ctl.intEnable && s.notices.any

/-- The HOLD output (R174). -/
def State.holdPin (s : State) : Bool := s.port.bus != .idle

/-- The OUT pin of a line is pulled low (R132). -/
def State.outDriven (s : State) (n : LineNo) : Bool := (s.line n).out.state != .rest

/-- Take one line or more, in order of number (the order of R163 and of every rule over all lines). -/
def State.forLines (s : State) (f : LineNo → State → State) : State :=
  (List.finRange 32).foldl (fun t n => f n t) s

end Sys2Proof.Machine
end

