-- ==== Sys2Proof/Machine/Operands.lean ====
section
/-! DEFINITION. Reading operands: bytes, words, the host sections, pattern and step records, settings and their
ranges. -/

namespace Sys2Proof.Machine

/-! ## Bytes and words, little-endian -/

/-- The byte at an offset of a section that has been read (its length is checked before). -/
def byteAt (bs : List Byte) (off : Nat) : Byte := bs.getD off 0

/-- The word at an offset: its least significant byte lies at the lowest address. -/
def wordAt (bs : List Byte) (off : Nat) : Word :=
  byteAt bs (off + 3) ++ byteAt bs (off + 2) ++ byteAt bs (off + 1) ++ byteAt bs off

/-- The bytes of a value of k bytes, little-endian. -/
def leBytes : Nat → Nat → List Byte
  | 0, _ => []
  | k + 1, v => BitVec.ofNat 8 v :: leBytes k (v / 256)

def flag (b : Byte) : Bool := b != 0

/-! ## Records -/

/-- A pattern record of 32 bytes at an offset. -/
def patternAt (bs : List Byte) (off : Nat) : PatternRecord where
  length := byteAt bs off
  foldCase := byteAt bs (off + 1)
  lineStart := byteAt bs (off + 2)
  wildcards := wordAt bs (off + 4)
  chars := (bs.drop (off + 8)).take 24

/-- A step record of 64 bytes at an offset. -/
def stepAt (bs : List Byte) (off : Nat) : StepRecord where
  action := byteAt bs off
  wait := byteAt bs (off + 1)
  patternA := byteAt bs (off + 2)
  patternB := byteAt bs (off + 3)
  actionArg := wordAt bs (off + 4)
  waitArg := wordAt bs (off + 8)
  timeout := wordAt bs (off + 12)
  success := ⟨byteAt bs (off + 16), byteAt bs (off + 17)⟩
  alternate := ⟨byteAt bs (off + 18), byteAt bs (off + 19)⟩
  timedOut := ⟨byteAt bs (off + 20), byteAt bs (off + 21)⟩
  failure := ⟨byteAt bs (off + 22), byteAt bs (off + 23)⟩
  textLength := byteAt bs (off + 24)
  text := (bs.drop (off + 32)).take 24

/-- A line record's host section (13_record_layouts.md, Line record). -/
def lineHostOf (bs : List Byte) : LineHost where
  enable := wordAt bs 0
  taken := wordAt bs 4
  fill := wordAt bs 8
  claim := wordAt bs 12
  tag := wordAt bs 16
  code := wordAt bs 20
  argA := wordAt bs 24
  argB := wordAt bs 28
  captureBase := wordAt bs 32
  captureSize := wordAt bs 36
  outboundBase := wordAt bs 40
  outboundSize := wordAt bs 44
  bitPeriod := wordAt bs 48
  fallback := wordAt bs 52
  detectLimit := wordAt bs 56
  holdLimit := wordAt bs 60
  tolerance := wordAt bs 64
  charGap := wordAt bs 68
  lineGap := wordAt bs 72
  absentTime := wordAt bs 76
  dataBits := byteAt bs 80
  parity := byteAt bs 81
  stopBits := byteAt bs 82
  rateMode := byteAt bs 83
  flow := byteAt bs 84
  rawAllowed := byteAt bs 85
  captureMode := byteAt bs 86
  trigger := patternAt bs 88

/-- The station header's host section (13_record_layouts.md, Station header). -/
structure HeaderHost where
  linesInUse  : Word
  lock        : Word
  interval    : Word
  lineMask    : Word
  stationMask : Word
  tag         : Word
  code        : Word
  blockIndex  : Word
  source      : Word
  deriving DecidableEq, Repr

def headerHostOf (bs : List Byte) : HeaderHost where
  linesInUse := wordAt bs 0
  lock := wordAt bs 4
  interval := wordAt bs 8
  lineMask := wordAt bs 12
  stationMask := wordAt bs 16
  tag := wordAt bs 20
  code := wordAt bs 24
  blockIndex := wordAt bs 28
  source := wordAt bs 32

/-! ## Enumerated settings (R2, R8; 13_record_layouts.md, Codes) -/

def dataBitsOf (b : Byte) : Option DataBits :=
  if b = 7 then some .seven else if b = 8 then some .eight else none

def stopBitsOf (b : Byte) : Option StopBits :=
  if b = 1 then some .one else if b = 2 then some .two else none

def parityOf (b : Byte) : Option Parity :=
  if b = 0 then some .none else if b = 1 then some .even else if b = 2 then some .odd else none

def rateModeOf (b : Byte) : Option RateMode :=
  if b = 0 then some .fixed else if b = 1 then some .detectOnEnable else none

def flowOf (b : Byte) : Option Flow :=
  if b = 0 then some .none else if b = 1 then some .xonxoff else none

def captureModeOf (b : Byte) : Option CaptureMode :=
  if b = 0 then some .hold else if b = 1 then some .roll else none

/-- The enumerated settings of a host section, all with defined codes. -/
structure Format where
  dataBits    : DataBits
  parity      : Parity
  stopBits    : StopBits
  rateMode    : RateMode
  flow        : Flow
  captureMode : CaptureMode
  deriving DecidableEq, Repr

/-- The format check, order 1 of R2: none when a field holds an undefined code. -/
def formatOf (h : LineHost) : Option Format :=
  match dataBitsOf h.dataBits, parityOf h.parity, stopBitsOf h.stopBits, rateModeOf h.rateMode, flowOf h.flow,
      captureModeOf h.captureMode with
  | some d, some p, some st, some r, some f, some c => some ⟨d, p, st, r, f, c⟩
  | _, _, _, _, _, _ => none

/-- The capture ring check, order 2 of R2. -/
def captureRingOk (h : LineHost) : Bool :=
  [1024, 2048, 4096, 8192, 16384, 32768, 65536, 131072, 262144, 524288, 1048576].contains h.captureSize.toNat
    && h.captureBase.toNat % 128 == 0

/-- The outbound ring check, order 3 of R2. -/
def outboundRingOk (h : LineHost) : Bool :=
  [64, 128, 256, 512, 1024, 2048, 4096].contains h.outboundSize.toNat && h.outboundBase.toNat % 64 == 0

/-- The checks of R2 in their order: the refusal of the first that fails, or the format. -/
def validate (h : LineHost) : Except LineRefusal Format :=
  match formatOf h with
  | none => .error .format
  | some f =>
    if !captureRingOk h then .error .captureRing
    else if !outboundRingOk h then .error .outboundRing
    else .ok f

/-! ## Numeric settings and their ranges (R6, R196) -/

/-- The eight numeric settings with their ranges: value and low and high end. -/
def numericFields (h : LineHost) : List (Nat × Nat × Nat) :=
  [(h.bitPeriod.toNat, 16, 131071), (h.fallback.toNat, 16, 131071), (h.tolerance.toNat, 5, 100),
   (h.detectLimit.toNat, 1000, 120000), (h.holdLimit.toNat, 0, 60000), (h.charGap.toNat, 0, 255),
   (h.lineGap.toNat, 0, 2000), (h.absentTime.toNat, 100, 10000)]

/-- Settings Clamped (R196): some numeric field lay outside its range. -/
def anyClamped (h : LineHost) : Bool := (numericFields h).any fun (v, lo, hi) => decide (v < lo ∨ hi < v)

/-- The settings copy with the fields APPLY takes loaded, clamped (R8); the ring fields and Capture Mode stay. -/
def Settings.apply (st : Settings) (h : LineHost) (f : Format) : Settings :=
  { st with
    dataBits := f.dataBits
    parity := f.parity
    stopBits := f.stopBits
    rateMode := f.rateMode
    bitPeriod := clamp 16 131071 h.bitPeriod.toNat
    fallback := clamp 16 131071 h.fallback.toNat
    tolerance := clamp 5 100 h.tolerance.toNat
    rawAllowed := flag h.rawAllowed
    detectLimit := clamp 1000 120000 h.detectLimit.toNat
    flow := f.flow
    holdLimit := clamp 0 60000 h.holdLimit.toNat
    charGap := clamp 0 255 h.charGap.toNat
    lineGap := clamp 0 2000 h.lineGap.toNat
    absentTime := clamp 100 10000 h.absentTime.toNat }

/-- The settings copy loaded whole at enable (R4, R6). -/
def Settings.load (h : LineHost) (f : Format) : Settings :=
  { Settings.reset.apply h f with
    captureBase := h.captureBase
    captureSize := h.captureSize.toNat
    captureMode := f.captureMode
    outboundBase := h.outboundBase
    outboundSize := h.outboundSize.toNat }

/-! ## Patterns (R44, R46) -/

/-- A pattern record as a consumer uses it: Length clamped to 1 to 24, flags set when non-zero. -/
def Pattern.ofRecord (p : PatternRecord) : Pattern where
  length := clamp 1 24 p.length.toNat
  chars := p.chars
  wild := p.wildcards
  foldCase := flag p.foldCase
  lineStart := flag p.lineStart

/-! ## Actions, waits and exits of a step (R86 to R89) -/

inductive Action where
  | none | send | brk | pulse | driveActive | driveRest | setRate | detectRate | armTrigger | signal | loadCounter
  | countDown
  deriving DecidableEq, Repr

def Action.ofCode (b : Byte) : Option Action :=
  match b.toNat with
  | 0 => some .none
  | 1 => some .send
  | 2 => some .brk
  | 3 => some .pulse
  | 4 => some .driveActive
  | 5 => some .driveRest
  | 6 => some .setRate
  | 7 => some .detectRate
  | 8 => some .armTrigger
  | 9 => some .signal
  | 10 => some .loadCounter
  | 11 => some .countDown
  | _ => Option.none

inductive Wait where
  | none | match_ | matchEither | matchThen | quiet | count | elapse | marking | spacing
  deriving DecidableEq, Repr

def Wait.ofCode (b : Byte) : Option Wait :=
  match b.toNat with
  | 0 => some .none
  | 1 => some .match_
  | 2 => some .matchEither
  | 3 => some .matchThen
  | 4 => some .quiet
  | 5 => some .count
  | 6 => some .elapse
  | 7 => some .marking
  | 8 => some .spacing
  | _ => Option.none

/-- A step that no block holds: its codes name nothing, so a runner on it does nothing. No run reaches it (R83,
R97); log entry 20. -/
def StepRecord.absent : StepRecord :=
  ⟨0xFF, 0xFF, 0, 0, 0, 0, 0, ⟨1, 0⟩, ⟨1, 0⟩, ⟨1, 0⟩, ⟨1, 0⟩, 0, []⟩

/-- A pattern that no block holds: with no characters it matches nothing. No run reaches it (R97). -/
def absentPattern : PatternRecord := ⟨0, 0, 0, 0, []⟩

/-- The step in progress on a line, read from its block. -/
def State.step (s : State) (n : LineNo) : StepRecord :=
  let r := (s.line n).run
  (s.block r.block).steps.getD r.current .absent

/-- A pattern of the block a line's runner refers to. -/
def State.pattern (s : State) (n : LineNo) (i : Byte) : PatternRecord :=
  (s.block (s.line n).run.block).patterns.getD i.toNat absentPattern

def State.action (s : State) (n : LineNo) : Option Action := Action.ofCode (s.step n).action
def State.wait (s : State) (n : LineNo) : Option Wait := Wait.ofCode (s.step n).wait

/-- The clamped arguments of R89. -/
def breakLength (v : Nat) : Nat := clamp 10 5000 v
def pulseWidth (v : Nat) : Nat := clamp 10 60000 v
def postCount (v : Nat) : Nat := clamp 0 65535 v
def quietTime (v : Nat) : Nat := clamp 1 60000 v
def countArg (v : Nat) : Nat := clamp 0 65535 v
def elapseTime (v : Nat) : Nat := clamp 0 600000 v
def byteArg (v : Nat) : Nat := clamp 0 255 v

/-- The step timeout as a started timer; 0 means no timeout (R88, R89). -/
def stepTimerOf (v : Nat) : Timer := if v = 0 then none else timerStart (clamp 1 600000 v)

/-- SET_RATE's period: 0 selects the Fallback Period in force (R7). -/
def ratePeriod (fallback v : Nat) : Nat := if v = 0 then fallback else clamp 16 131071 v

end Sys2Proof.Machine
end

