-- ==== Sys2Proof/Machine/Detect.lean ====
section
/-! DEFINITION. The Rate Finder (02_rate_finding.md): starting and cancelling a detection, the Detect Queue and the
slots, the measurement of runs, snapping and adoption. What a conclusion does to a running step is in Runner.lean. -/

namespace Sys2Proof.Machine

/-! ## The Standard Rate Table (R33) -/

/-- The bit periods Ps of entries 1 to 12. -/
def rateTable : List Nat := [32, 64, 128, 256, 512, 768, 1536, 3072, 6144, 12288, 24576, 98304]

def ratePs (e : Fin 12) : Nat := rateTable.getD e.val 0

/-- The error of Q against Ps, in per mille (R34). -/
def rateError (q ps : Nat) : Nat := ((q - ps) + (ps - q)) * 1000 / ps

/-- The better of a candidate so far and an entry of a larger Ps: the entry wins only with a smaller error, so a tie
keeps the smaller Ps (R34). -/
def betterEntry (q : Nat) (best : Option (Fin 12)) (e : Fin 12) : Option (Fin 12) :=
  match best with
  | none => some e
  | some b => if rateError q (ratePs e) < rateError q (ratePs b) then some e else some b

/-- The candidate of one look: the entry of least error that is not struck off (R34). -/
def candidate (rejected : BitVec 12) (q : Nat) : Option (Fin 12) :=
  ((List.finRange 12).filter fun e => !rejected.getLsbD e.val).foldl (betterEntry q) none

/-- One look: the candidate if its error is within the tolerance. -/
def look (rejected : BitVec 12) (tolerance q : Nat) : Option (Fin 12) :=
  (candidate rejected q).filter fun e => decide (rateError q (ratePs e) ≤ tolerance)

/-- Snapping (R34, R35): the adoption and the period adopted, or none when the attempt fails. -/
def snap (rejected : BitVec 12) (tolerance : Nat) (rawAllowed : Bool) (pm : Nat) : Option (Adoption × Nat) :=
  match look rejected tolerance pm with
  | some e => some (.entry e, ratePs e)
  | none =>
    match look rejected tolerance (pm / 2) with
    | some e => some (.entry e, ratePs e)
    | none => if rawAllowed then some (.raw, pm) else none

/-! ## Queue and slots (R28, R29) -/

/-- A detection of the line is in progress (R25). -/
def Detection.inProgress (d : Detection) : Bool := d.state != .none

/-- A line is granted a slot: it becomes MEASURING and waits for a falling edge (R29, R30). -/
def State.grantSlot (s : State) (n : LineNo) : State :=
  (s.modDet n fun d => { d with state := .measuring, meas := .idle }).mark n

/-- The free slots go to the head of the Detect Queue, in its order (R29). -/
def State.grantSlots (s : State) : State :=
  let granted := s.queue.take (4 - s.slots.length)
  let s := { s with queue := s.queue.drop (4 - s.slots.length), slots := s.slots ++ granted }
  granted.foldl State.grantSlot s

/-- The line leaves the queue and gives up its slot, if it has one; other lines keep their order. -/
def State.leaveFinder (s : State) (n : LineNo) : State :=
  { s with queue := s.queue.filter (· != n), slots := s.slots.filter (· != n) }

/-- The line joins the tail of the Detect Queue. -/
def State.joinQueue (s : State) (n : LineNo) : State := { s with queue := s.queue ++ [n] }

/-! ## Start and cancellation (R26, R41) -/

/-- A detection starts (R26); `bound`: from a step's DETECT_RATE action. -/
def State.startDetection (s : State) (n : LineNo) (bound : Bool) : State :=
  let limit := (s.line n).settings.detectLimit
  let s := s.modDet n fun d => { d with
    state := .queued
    attempts := 0
    rejected := 0
    counted := 0
    least := none
    verified := 0
    adoption := .none
    bound := bound
    limit := timerStart limit
    meas := .idle }
  ((s.mark n).joinQueue n).grantSlots

/-- A detection in progress is cancelled, leaving P as it is and discarding a partial measurement; none in progress,
nothing to do (R41). No rule gives Verified Count a value here; keeping it is the model's choice (log 39). -/
def State.cancelDetection (s : State) (n : LineNo) : State :=
  if (s.line n).det.inProgress then
    let s := s.modDet n fun d => { d with
      state := .none
      outcome := .cancelled
      concluded := s.now
      limit := none
      bound := false
      counted := if d.state = .measuring then 0 else d.counted
      least := if d.state = .measuring then none else d.least
      meas := .idle }
    ((s.mark n).leaveFinder n).grantSlots
  else s

/-! ## Measurement (R30 to R32) -/

/-- An edge comes `ticks` reference ticks after the line's previous edge, while the line is measured. An edge within
sixteen ticks of one still waiting to be judged sets both aside; otherwise it waits in its turn. Before the
measurement has begun, only a falling edge can wait. -/
def Measurement.onEdge (m : Measurement) (ticks : Nat) (falling : Bool) : Measurement :=
  if m.edge then { m with edge := false, ticks := m.ticks + ticks }
  else if m.begun then { m with edge := true, ticks := m.ticks + ticks }
  else if falling then { m with edge := true, ticks := 0 }
  else m

/-- The run that a judged edge ends is counted (R32): 16 to 131071 ticks. -/
def Detection.countRun (d : Detection) (run : Nat) : Detection :=
  { d with
    counted := d.counted + 1
    least := some (match d.least with | none => run | some m => min m run) }

/-- The judged edge stands: it begins the measurement, or ends a run and starts the next (R30, R32). A run of fewer
than 16 ticks is a glitch and goes on (R31). -/
def Detection.judgeEdge (d : Detection) : Detection :=
  if !d.meas.begun then { d with meas := ⟨true, false, 0⟩ }
  else if d.meas.ticks < 16 then { d with meas := { d.meas with edge := false } }
  else
    let d' := { d with meas := ⟨true, false, 0⟩ }
    if 131072 ≤ d.meas.ticks then d' else d'.countRun d.meas.ticks

/-! ## Attempts (R36, R38) -/

/-- A change of P marks the report dirty (R9). -/
def State.setPeriod (s : State) (n : LineNo) (p : Nat) : State :=
  (s.modLine n fun l => { l with period := p }).markIf n ((s.line n).period != p)

/-- Adoption (R36): the slot is freed, P is set, and the line becomes VERIFYING. A receive frame already begun will
not be counted (R37). -/
def State.adopt (s : State) (n : LineNo) (a : Adoption) (p : Nat) : State :=
  let s := s.setPeriod n p
  let s := s.modLine n fun l => { l with
    frame := l.frame.map fun f => { f with counted := false }
    det := { l.det with
      state := .verifying
      adoption := a
      verified := 0
      counted := 0
      least := none
      meas := .idle } }
  ((s.mark n).leaveFinder n).grantSlots

/-- A failed attempt below the fourth: the slot, if held, is freed and the line rejoins the tail (R38). That Verified
Count stays, and that the counted runs of the attempt go here and not at the next slot, is the model's choice
(log 39). -/
def State.requeue (s : State) (n : LineNo) : State :=
  let s := s.modDet n fun d => { d with
    state := .queued
    attempts := d.attempts + 1
    counted := 0
    least := none
    meas := .idle }
  (((s.mark n).leaveFinder n).joinQueue n).grantSlots

/-- A conclusion, but for what it tells a running step (R40). The attempts are those counted so far. R40's list of kept
values omits Verified Count and no rule gives it a value before the next start or adoption; keeping the last count is
the model's choice (log 39). -/
def State.endDetection (s : State) (n : LineNo) (o : DetectOutcome) : State :=
  let s := s.modLine n fun l => { l with
    period := if o = .failed then l.settings.fallback else l.period
    det := { l.det with
      state := .none
      outcome := o
      concluded := s.now
      limit := none
      bound := false
      counted := if l.det.state = .measuring then 0 else l.det.counted
      least := if l.det.state = .measuring then none else l.det.least
      meas := .idle } }
  ((s.raise n .rateConcluded).leaveFinder n).grantSlots

end Sys2Proof.Machine
end

