-- ==== Sys2Proof/Machine/Matching.lean ====
section
/-! DEFINITION. The Match Engine (03_pattern_matching.md): the history, the freshness counts and the match test. -/

namespace Sys2Proof.Machine

/-- A letter A to Z or a to z (R45). -/
def isLetter (b : Byte) : Bool :=
  decide (0x41 ≤ b.toNat ∧ b.toNat ≤ 0x5A) || decide (0x61 ≤ b.toNat ∧ b.toNat ≤ 0x7A)

/-- Two bytes are the same letter in different cases: letters 0x20 apart (R45). -/
def sameLetter (a b : Byte) : Bool := isLetter a && isLetter b && a ^^^ b == 0x20

/-- Position i + 1 of a pattern agrees with a character (R45). -/
def Pattern.agrees (p : Pattern) (i : Nat) (c : Byte) : Bool :=
  p.wild.getLsbD i ||
    match p.chars[i]? with
    | none => false
    | some b => b == c || (p.foldCase && sameLetter b c)

/-- Positions i + 1 onward agree with the characters of a span, in order. -/
def Pattern.agreesFrom (p : Pattern) : Nat → List Byte → Bool
  | _, [] => true
  | i, c :: cs => p.agrees i c && p.agreesFrom (i + 1) cs

/-- The newest k characters of a history. -/
def newest (k : Nat) (history : List Byte) : List Byte := history.drop (history.length - k)

/-- The anchor of a Line Start pattern (R54, R55). -/
def Pattern.anchored (p : Pattern) (fresh : Nat) (history : List Byte) : Bool :=
  fresh == p.length ||
    match (history.take (history.length - p.length)).getLast? with
    | none => false
    | some c => c == 0x0D || c == 0x0A

/-- The match test of R54, on the delivery of an eligible character that already stands in the history. -/
def Pattern.matches (p : Pattern) (fresh : Nat) (history : List Byte) : Bool :=
  decide (p.length ≤ fresh) && p.agreesFrom 0 (newest p.length history) &&
    (!p.lineStart || p.anchored fresh history)

/-- An eligible character enters the history (R47). -/
def pushHistory (history : List Byte) (c : Byte) : List Byte := newest 24 (history ++ [c])

/-- An eligible character is delivered: history and both freshness counts (R47, R48). -/
def Line.enterHistory (l : Line) (c : Byte) : Line :=
  { l with
    history := pushHistory l.history c
    scriptFresh := satAdd 24 l.scriptFresh 1
    trigFresh := satAdd 24 l.trigFresh 1 }

/-- Both freshness counts are cleared (R51). -/
def Line.clearFresh (l : Line) : Line := { l with scriptFresh := 0, trigFresh := 0 }

/-- A delivered good character is eligible for the history (R14). -/
def Line.eligible (l : Line) (c : Byte) : Bool :=
  c != 0x00 && !(l.settings.flow == .xonxoff && (c == 0x11 || c == 0x13))

/-- The trigger consumer's judgement (R53, R59). -/
def Line.triggerMatches (l : Line) : Bool :=
  l.cap.trigger == .armed &&
    match l.cap.pattern with
    | none => false
    | some p => p.matches l.trigFresh l.history

/-- What the script consumer hands the runner on a delivery (R56 to R58). -/
inductive ScriptMatch where | nothing | a | b
  deriving DecidableEq, Repr

/-- The script consumer's judgement, given the wait in progress and the patterns its step names. -/
def scriptJudge (w : Option Wait) (phase : MatchPhase) (pa pb : Bool) : ScriptMatch :=
  match w with
  | some .match_ => if pa then .a else .nothing
  | some .matchEither => if pa then .a else if pb then .b else .nothing
  | some .matchThen =>
    match phase with
    | .a => if pa then .a else .nothing
    | .b => if pb then .b else .nothing
  | _ => .nothing

/-- Judge the step's patterns for a WAITING runner on the history as it now stands. -/
def State.scriptMatch (s : State) (n : LineNo) : ScriptMatch :=
  let l := s.line n
  let st := s.step n
  let hits (i : Byte) : Bool := (Pattern.ofRecord (s.pattern n i)).matches l.scriptFresh l.history
  if l.run.state = .waiting then scriptJudge (s.wait n) l.run.phase (hits st.patternA) (hits st.patternB) else .nothing

end Sys2Proof.Machine
end

