-- ==== Sys2Proof/Machine/Output.lean ====
section
/-! DEFINITION. The Output Unit (07_rack_outputs.md): orders and the end of a pulse. -/

namespace Sys2Proof.Machine

/-- A PULSE order of a width already clamped (R133). -/
def Output.pulse (o : Output) (now : Word) (w : Nat) : Output :=
  { o with state := .pulsing, time := now, width := w, timer := timerStart w }

/-- An order to a state other than PULSING (R134): a pulse in progress ends CUT. -/
def Output.drive (o : Output) (now : Word) (to_ : OutputState) : Output :=
  if o.state = to_ then o
  else { o with
    state := to_
    time := now
    timer := none
    ended := if o.state = .pulsing then .cut else o.ended }

/-- The Pulse Timer expires (R135). -/
def Output.expire (o : Output) (now : Word) : Output :=
  { o with state := .rest, time := now, timer := none, ended := .expired }

/-- A PULSE order reaches a line's output. -/
def State.orderPulse (s : State) (n : LineNo) (w : Nat) : State :=
  (s.modLine n fun l => { l with out := l.out.pulse s.now w }).mark n

/-- A DRIVE_ACTIVE or DRIVE_REST order reaches a line's output; the report is dirty if the state changed. -/
def State.orderDrive (s : State) (n : LineNo) (to_ : OutputState) : State :=
  (s.modLine n fun l => { l with out := l.out.drive s.now to_ }).markIf n ((s.line n).out.state != to_)

end Sys2Proof.Machine
end

