-- ==== Sys2Proof/Machine/Capture.lean ====
section
/-! DEFINITION. The Capture Unit (04_capture.md): FIFO offers, counts in HOLD and ROLL, the trigger, the settlement at
line off. -/

namespace Sys2Proof.Machine

/-- The largest Dropped (R61). -/
def droppedMax : Nat := 4294967295

/-! ## Counts (R68 to R72) -/

/-- The used count: from Taken In Force to Head (R69). -/
def Capture.used (c : Capture) : Nat := dist c.taken c.head

/-- The room of a HOLD ring (R69). -/
def Capture.room (c : Capture) (size : Nat) : Nat := size - c.used

/-- Taken In Force as HOLD admits it: within one ring size behind Head, else the ring counts as full (R68). -/
def holdTaken (taken head : Word) (size : Nat) : Word :=
  if dist taken head ≤ size then taken else head - BitVec.ofNat 32 size

/-- Tail follows Taken In Force in HOLD, except while FROZEN (R69). -/
def Capture.holdTail (c : Capture) : Capture := { c with tail := if c.trigger = .frozen then c.tail else c.taken }

/-- Tail is pushed forward in ROLL (R71). -/
def Capture.rollTail (c : Capture) (size : Nat) : Capture :=
  { c with tail := if size < dist c.tail c.head then c.head - BitVec.ofNat 32 size else c.tail }

/-- Half Reached in HOLD and Lapped in ROLL are judged (R70, R72). -/
def Capture.judge (c : Capture) (mode : CaptureMode) (size : Nat) : Capture :=
  match mode with
  | .hold => { c with half := decide (size / 2 ≤ c.used) }
  | .roll => { c with lapped := decide (dist c.tail c.head < dist c.taken c.head) }

/-- The Taken value of a record is applied (R68). -/
def Capture.applyTaken (c : Capture) (mode : CaptureMode) (size : Nat) (taken : Word) : Capture :=
  match mode with
  | .hold => (({ c with taken := holdTaken taken c.head size } : Capture).holdTail).judge .hold size
  | .roll => ({ c with taken := taken } : Capture).judge .roll size

/-- The causes that a judgement raises: a flag found clear before and now set (R70, R72). -/
def State.raiseJudged (s : State) (n : LineNo) (before after : Capture) : State :=
  (s.raiseIf n .captureHalf (!before.half && after.half)).raiseIf n .captureLapped (!before.lapped && after.lapped)

/-- The Capture Unit's answer to a Taken handed over by a sweep; a change that the part section shows marks the
report dirty (R68, R82). -/
def State.applyTaken (s : State) (n : LineNo) (taken : Word) : State :=
  let l := s.line n
  let c := l.cap.applyTaken l.settings.captureMode l.settings.captureSize taken
  ((s.modCap n fun _ => c).markIf n (c != l.cap)).raiseJudged n l.cap c

/-! ## The receive FIFO (R62, R63) -/

/-- The outcomes of an offer (R62). -/
inductive Offer where | freezeDrop | overflowDrop | accepted
  deriving DecidableEq, Repr

def Capture.offer (c : Capture) : Offer :=
  if c.trigger = .frozen then .freezeDrop
  else if c.trigger = .counting ∧ c.remaining ≤ c.fifo.length - c.lead then .freezeDrop
  else if 64 ≤ c.fifo.length then .overflowDrop
  else .accepted

/-- Discard k delivered characters: Dropped saturates (R63). -/
def Capture.drop (c : Capture) (k : Nat) : Capture := { c with dropped := satAdd droppedMax c.dropped k }

/-- A delivered character is offered to the line's FIFO (R62, R63). -/
def State.offer (s : State) (n : LineNo) (b : Byte) : State :=
  let c := (s.line n).cap
  match c.offer with
  | .accepted => s.modCap n fun c => { c with fifo := c.fifo ++ [b] }
  | .freezeDrop => (s.modCap n fun c => c.drop 1).markIf n (c.dropped != droppedMax)
  | .overflowDrop => (s.modCap n fun c => c.drop 1).raise n .dataDropped

/-! ## The trigger (R73 to R77) -/

/-- The trigger is armed (R73, R50). -/
def State.armTrigger (s : State) (n : LineNo) (p : Pattern) (post : Nat) : State :=
  (s.modLine n fun l => { l with
    trigFresh := 0
    cap := { l.cap with trigger := .armed, pattern := some p, post := post, lead := 0, remaining := 0 } }).mark n

/-- The armed pattern has matched (R74). -/
def State.triggerMatched (s : State) (n : LineNo) : State :=
  (s.modCap n fun c => { c with
    trigger := .counting, lead := c.fifo.length, remaining := c.post, matchTime := s.now }).mark n

/-- The trigger goes to OFF (R77); in HOLD Tail becomes Taken In Force again. R77 gives Post Count no value and R78's
list of values kept while OFF omits it; keeping the last arming's count until the next arming or enable is the model's
choice (log 41). -/
def Capture.triggerOff (c : Capture) (mode : CaptureMode) : Capture :=
  let c := { c with trigger := .off, pattern := none, lead := 0, remaining := 0 }
  match mode with
  | .hold => c.holdTail
  | .roll => c

def State.triggerOff (s : State) (n : LineNo) : State :=
  (s.modLine n fun l => { l with cap := l.cap.triggerOff l.settings.captureMode }).mark n

/-- A completed write of k characters is accounted to a COUNTING trigger (R75). -/
def Capture.account (c : Capture) (k : Nat) : Capture :=
  if c.trigger = .counting then
    let c := { c with lead := c.lead - k, remaining := c.remaining - (k - c.lead) }
    if c.lead = 0 ∧ c.remaining = 0 then { c with trigger := .frozen } else c
  else c

/-! ## Writing to the ring (R64 to R66) -/

/-- The line is one the Capture Writer serves: ON, or not ON with Draining set (R64, R78; log 16). -/
def Line.captures (l : Line) : Bool := l.status == .on || l.cap.draining

/-- The writable length of R65. -/
def Line.writable (l : Line) : Nat :=
  let size := l.settings.captureSize
  let n := min (min 128 l.cap.fifo.length) (size - l.cap.head.toNat % size)
  match l.settings.captureMode with
  | .hold => min n (l.cap.room size)
  | .roll => n

/-- Ready for the Capture Writer (R64). -/
def Line.captureReady (l : Line) : Bool := l.captures && decide (1 ≤ l.writable)

/-- The address of the next byte of the ring (R65). -/
def Line.captureAddr (l : Line) : Word :=
  l.settings.captureBase + BitVec.ofNat 32 (l.cap.head.toNat % l.settings.captureSize)

/-- A capture write of k bytes completes: steps 1 to 5 of R66, in order. -/
def Capture.written (c : Capture) (mode : CaptureMode) (size k : Nat) : Capture :=
  let c := { c with fifo := c.fifo.drop k, head := addCount c.head k }
  let c := match mode with
    | .hold => ({ c with taken := holdTaken c.taken c.head size } : Capture).holdTail
    | .roll => c.rollTail size
  (c.account k).judge mode size

/-- The completion of a capture write for a line (R66, R78). -/
def State.captureWritten (s : State) (n : LineNo) (k : Nat) : State :=
  let l := s.line n
  let c := l.cap.written l.settings.captureMode l.settings.captureSize k
  let c := { c with draining := c.draining && !c.fifo.isEmpty }
  (((s.modCap n fun _ => c).mark n).raiseIf n .captureFrozen
    (l.cap.trigger != .frozen && c.trigger == .frozen)).raiseJudged n l.cap c

/-! ## Line off and stop (R78, R80) -/

/-- Keep the k oldest characters and discard the rest. -/
def State.keepFifo (s : State) (n : LineNo) (k : Nat) : State :=
  let c := (s.line n).cap
  let lost := c.fifo.length - k
  let draining := !(c.fifo.take k).isEmpty
  let s := s.modCap n fun c => { c.drop lost with fifo := c.fifo.take k, draining := draining }
  (s.markIf n (c.draining != draining)).raiseIf n .dataDropped (decide (0 < lost))

/-- The characters that a capture write in flight for the line carries. -/
def State.carriedChars (s : State) (n : LineNo) : Nat :=
  match s.port.inFlight with
  | some t => if t.job = .capture n ∧ !t.stale then t.length else 0
  | none => 0

/-- The FIFO is settled (R78, R80): all is kept in ROLL; in HOLD what the room admits, and in any case what a write
in flight carries (log 15). -/
def State.settleFifo (s : State) (n : LineNo) : State :=
  let l := s.line n
  match l.settings.captureMode with
  | .roll => s.keepFifo n l.cap.fifo.length
  | .hold => s.keepFifo n (max (l.cap.room l.settings.captureSize) (s.carriedChars n))

/-- The characters still in the FIFO are discarded because memory has failed during a stop (R80). -/
def State.discardFifo (s : State) (n : LineNo) : State :=
  if (s.line n).cap.fifo.isEmpty then s else s.keepFifo n 0

end Sys2Proof.Machine
end

