-- ==== Sys2Proof/Config.lean ====
section
/-! DEFINITION. What the implementation fixes. The spec leaves no result value of the LC32 open, so there is
no free value here (see log entry 20 for codes that no validated step holds). -/

namespace Sys2Proof.Config

/-- PART_ID fields (R184). -/
def partCode : Nat := 0x0A32
def revision : Nat := 1
def lineCount : Nat := 32
def blockCount : Nat := 16

/-- The grant timer's length in reference ticks (R176). -/
def grantTicks : Nat := 2950

/-- The access timer's length in reference ticks (R178). -/
def accessTicks : Nat := 738

end Sys2Proof.Config
end

