-- ==== Sys2Proof/Machine/Flags.lean ====
section
/-! DEFINITION. What the processor sees: the codes of every status field, the part sections of the line records and
of the header (R195, R196), and the register values (R184, R194). -/

namespace Sys2Proof.Machine

/-! ## Codes (13_record_layouts.md, Codes) -/

def PartState.code : PartState → Nat
  | .halted => 0 | .starting => 1 | .running => 2 | .stopping => 3

def LineStatus.code : LineStatus → Nat
  | .off => 0 | .on => 1 | .configBad => 2

def LineRefusal.code : LineRefusal → Nat
  | .none => 0 | .format => 1 | .captureRing => 2 | .outboundRing => 3

def Parity.code : Parity → Nat
  | .none => 0 | .even => 1 | .odd => 2

def Owner.code : Owner → Nat
  | .free => 0 | .operator => 1 | .script => 2 | .lent => 3

def DetectState.code : DetectState → Nat
  | .none => 0 | .queued => 1 | .measuring => 2 | .verifying => 3

def DetectOutcome.code : DetectOutcome → Nat
  | .none => 0 | .settled => 1 | .settledUnverified => 2 | .failed => 3 | .cancelled => 4

def Adoption.code : Adoption → Nat
  | .none => 0 | .entry e => e.val + 1 | .raw => 15

def TriggerState.code : TriggerState → Nat
  | .off => 0 | .armed => 1 | .counting => 2 | .frozen => 3

def OutputState.code : OutputState → Nat
  | .rest => 0 | .active => 1 | .pulsing => 2

def PulseEnd.code : PulseEnd → Nat
  | .none => 0 | .expired => 1 | .cut => 2

def RunnerState.code : RunnerState → Nat
  | .idle => 0 | .queued => 1 | .acting => 2 | .waiting => 3 | .paused .acting => 4 | .paused .waiting => 5

def TrailExit.code : TrailExit → Nat
  | .success => 0 | .alternate => 1 | .timeout => 2 | .failure => 3 | .endedByAbort => 4 | .endedByStop => 5
  | .endedByLineOff => 6 | .runaway => 7

def OutcomeKind.code : OutcomeKind → Nat
  | .completed => 1 | .aborted => 2 | .stopped => 3 | .lineOff => 4 | .runaway => 5

def FailureReason.code : FailureReason → Nat
  | .none => 0 | .locked => 1 | .counterZero => 2 | .frozen => 3 | .detectFailed => 4

def ReqResult.code : ReqResult → Nat
  | .none => 0 | .accepted => 1 | .notIdle => 2 | .blockNotReady => 3 | .stepRange => 4 | .lineOff => 5
  | .notRunning => 6 | .notPaused => 7 | .owner => 8 | .busy => 9 | .locked => 10 | .scriptRunning => 11
  | .invalid => 12 | .frozen => 13 | .unknownCode => 14

def StationResult.code : StationResult → Nat
  | .none => 0 | .accepted => 1 | .inUse => 2 | .badBlock => 3 | .badAddress => 4 | .unknownCode => 5

def LoadResult.code : LoadResult → Nat
  | .none => 0 | .loaded => 1 | .checksumBad => 2 | .countBad => 3 | .stepBad => 4 | .patternBad => 5
  | .memoryFault => 6 | .cancelled => 7

def BlockState.code : BlockState → Nat
  | .empty => 0 | .loading => 1 | .ready => 2

def FaultKind.code : FaultKind → Nat
  | .none => 0 | .grant => 1 | .access => 2 | .error => 3

def clientCode : Option Client → Nat
  | none => 0 | some .scanner => 1 | some .capture => 2 | some .fetcher => 3 | some .report => 4 | some .loader => 5

/-! ## Packing fields into words -/

/-- Fields of the given widths, the first at bit 0, each above the one before it. -/
def packBits : List (Nat × Nat) → Nat
  | [] => 0
  | (w, v) :: rest => v % 2 ^ w + 2 ^ w * packBits rest

def bitOf (b : Bool) : Nat := if b then 1 else 0

/-! ## The line part section (13_record_layouts.md, Line record; R195) -/

/-- Format In Force (R196). -/
def formatInForce (st : Settings) : Nat :=
  packBits [(1, bitOf (st.dataBits == .eight)), (2, st.parity.code), (1, bitOf (st.stopBits == .two)),
    (1, bitOf (st.rateMode == .detectOnEnable)), (1, bitOf (st.flow == .xonxoff)), (1, bitOf st.rawAllowed),
    (1, bitOf (st.captureMode == .roll))]

def trailEntry (l : Line) (k : Nat) : TrailEntry := l.run.trail.getD k ⟨0, .success, 0⟩

/-- Trigger Length: the Length of the pattern copy, or 0 with no copy (R82). -/
def triggerLength (c : Capture) : Nat := (c.pattern.map Pattern.length).getD 0

def lastOutcomeKind (r : Runner) : Nat := (r.last.map fun o => o.kind.code).getD 0
/-- With no run since the reset (Last Outcome none) the kind is NONE (R131); the spec gives no value for the other four
fields, and the model writes them as 0 (log 36). -/
def lastOutcome (r : Runner) : RunOutcome := r.last.getD ⟨.completed, 0, 0, .success, 0⟩

/-- The 128 bytes of a line's part section. -/
def linePart (l : Line) : List Byte :=
  let r := l.run
  let o := lastOutcome r
  let tagResult : Nat × Nat := match l.takenTag with
    | none => (0, 15)
    | some t => (t.toNat, l.result.code)
  leBytes 4 tagResult.1
    ++ leBytes 4 l.cap.head.toNat ++ leBytes 4 l.cap.tail.toNat ++ leBytes 4 l.cap.taken.toNat
    ++ leBytes 4 l.cap.dropped
    ++ leBytes 4 l.sent.toNat ++ leBytes 4 l.fillSeen.toNat
    ++ leBytes 4 l.conditionTime.toNat ++ leBytes 4 l.breakTime.toNat
    ++ leBytes 4 l.det.concluded.toNat ++ leBytes 4 l.cap.matchTime.toNat ++ leBytes 4 l.out.time.toNat
    ++ leBytes 4 r.signalTime.toNat ++ leBytes 4 o.time.toNat
    ++ (List.range 8).flatMap (fun k => leBytes 4 (trailEntry l k).time.toNat)
    ++ leBytes 4 (packBits [(17, l.period), (3, l.det.attempts), (12, l.det.rejected.toNat)])
    ++ leBytes 4 (packBits [(17, l.det.measured.getD 0), (4, l.det.adoption.code), (2, l.det.state.code),
        (3, l.det.outcome.code), (1, bitOf l.cap.half), (1, bitOf l.cap.lapped), (1, bitOf l.cap.draining),
        (1, bitOf l.flowHeld), (1, bitOf (l.condition == .spacing)), (1, bitOf l.claimSeen)])
    ++ (List.range 8).flatMap (fun k => leBytes 1 (trailEntry l k).step)
    ++ leBytes 4 (packBits ((List.range 8).map (fun k => (3, (trailEntry l k).exit.code))
        ++ [(4, r.trail.length), (1, bitOf (r.phase == .b)), (3, r.state.code)]))
    ++ leBytes 2 l.garble ++ leBytes 2 l.out.width
    ++ leBytes 2 l.cap.post ++ leBytes 2 l.cap.remaining
    ++ leBytes 1 (packBits [(4, tagResult.2), (2, l.status.code), (2, l.refusal.code)])
    ++ leBytes 1 (packBits [(2, l.out.state.code), (2, l.out.ended.code), (2, l.owner.code), (2, l.ownerInForce.code)])
    ++ leBytes 1 (packBits [(2, l.cap.trigger.code), (5, triggerLength l.cap)])
    ++ leBytes 1 (formatInForce l.settings)
    ++ leBytes 1 (packBits [(4, r.block.val), (3, lastOutcomeKind r)])
    ++ leBytes 2 (packBits [(6, r.entry), (6, r.current), (3, r.failure.code), (1, bitOf l.clamped)])
    ++ leBytes 1 r.counter
    ++ leBytes 1 (packBits [(5, r.textOffset), (3, o.exit.code)])
    ++ leBytes 1 o.code.toNat
    ++ leBytes 1 (packBits [(6, o.lastStep)])
    ++ leBytes 1 r.signalCode

/-! ## The header part section (13_record_layouts.md, Station header; R173) -/

/-- The Part State the header shows: HALTED once the stop's wind-up is complete (R192). -/
def Control.shownPart (c : Control) : PartState := if c.windUp then .halted else c.part

def blockEntry (b : Block) : List Byte :=
  leBytes 1 b.state.code ++ leBytes 1 b.stepCount ++ leBytes 1 b.patternCount ++ leBytes 1 b.useCount

/-- The 128 bytes of the header's part section. -/
def headerPart (s : State) : List Byte :=
  let tagResult : Nat × Nat := match s.scan.tag with
    | none => (0, 255)
    | some t => (t.toNat, s.scan.result.code)
  leBytes 1 s.ctl.shownPart.code ++ leBytes 1 s.linesInUse ++ leBytes 1 s.store.loadResult.code
    ++ leBytes 1 s.store.loadBlock
    ++ leBytes 4 s.lockSet.toNat ++ leBytes 4 s.scan.interval ++ leBytes 4 s.scan.lastTime.toNat
    ++ leBytes 4 tagResult.1 ++ leBytes 1 tagResult.2 ++ leBytes 1 s.store.loadIndex ++ leBytes 2 0
    ++ s.store.blocks.toList.flatMap blockEntry
    ++ leBytes 40 0

/-! ## Registers (R184, R194) -/

/-- What the processor gets of a register's word when it addresses a part of it (R194). -/
def laneOf (lane : Lane) (w : Word) : Word :=
  match lane with
  | .word => w
  | .half upper => if upper then w >>> 16 else w &&& 0xFFFF
  | .byte k => (w >>> (8 * k.val)) &&& 0xFF

/-- The lowest-numbered line from a list whose pending set is not empty. -/
def Notices.firstLine (u : Notices) : Option LineNo := (List.finRange 32).find? fun n => u.line.get n != 0

/-- The NOTICE word: Cause Set in bits 0 to 11, Source in bits 16 to 21. -/
def noticeWord (source causes : Nat) : Word := BitVec.ofNat 32 (source * 65536 + causes)

/-- A read of NOTICE (R189): the word returned and the pending sets after it. -/
def Notices.take (u : Notices) : Word × Notices :=
  match u.firstLine with
  | some n => (noticeWord n.val (u.line.get n).toNat, { u with line := u.line.set n.val 0 n.isLt })
  | none =>
    if u.station != 0 then (noticeWord 32 u.station.toNat, { u with station := 0 })
    else (noticeWord 63 0, u)

/-- A register's word, by its offset. NOTICE shows the notice that a read would return; the read is a command, and
removes it. Offsets 0x18 to 0x3C read 0. -/
def State.regWord (s : State) (offset : Nat) : Word :=
  match offset with
  | 0x00 => BitVec.ofNat 32 (packBits [(16, Config.partCode), (4, Config.revision), (6, Config.lineCount),
      (6, Config.blockCount)])
  | 0x04 => s.ctl.base
  | 0x08 => BitVec.ofNat 32 (packBits [(1, bitOf (s.ctl.part == .starting || s.ctl.part == .running)),
      (1, bitOf s.ctl.intEnable), (6, 0), (2, s.ctl.part.code)])
  | 0x0C => s.notices.take.1
  | 0x10 => BitVec.ofNat 32 (packBits [(1, bitOf s.port.flag), (3, 0), (3, s.port.faultKind.code), (1, 0),
      (3, clientCode s.port.faultClient)])
  | 0x14 => s.port.faultAddr
  | _ => 0

/-- The part answers no register access while RESETN is low (R193). -/
def State.answers (s : State) : Bool := !s.ctl.inReset

/-- What a read of the register window gives the processor (R184, R194); none where the read is not answered. -/
def State.regRead (s : State) (lane : Lane) (offset : Nat) : Option Word :=
  if s.answers then some (laneOf lane (s.regWord offset)) else none

end Sys2Proof.Machine
end

