-- ==== Sys2Proof/Machine/Loader.lean ====
section
/-! DEFINITION. The Script Store's Loader (05_script_blocks.md): the image, its judgement, and how a load concludes. -/

namespace Sys2Proof.Machine

/-! ## The image (R91, R92) -/

/-- Bytes of load transaction k: 128, and 64 for the last (R91). -/
def loadLength (k : Nat) : Nat := if k = 36 then 64 else 128

/-- The words of a transaction's bytes, in order. -/
def wordsOf : List Byte → List Word
  | a :: b :: c :: d :: rest => (d ++ c ++ b ++ a) :: wordsOf rest
  | _ => []

/-- The words added to the Running Sum: all but the Checksum word, the third of transaction 0 (R92). -/
def summedWords (k : Nat) (bs : List Byte) : List Word :=
  if k = 0 then (wordsOf bs).eraseIdx 2 else wordsOf bs

def sumWords (ws : List Word) : Word := ws.foldl (· + ·) 0

/-- The pattern records that transaction k brings (R91). -/
def loadPatterns (k : Nat) (bs : List Byte) : List PatternRecord :=
  if k = 0 then [patternAt bs 64, patternAt bs 96]
  else if k ≤ 3 then [patternAt bs 0, patternAt bs 32, patternAt bs 64, patternAt bs 96]
  else if k = 4 then [patternAt bs 0, patternAt bs 32]
  else []

/-- The step records that transaction k brings (R91). -/
def loadSteps (k : Nat) (bs : List Byte) : List StepRecord :=
  if k ≤ 3 then []
  else if k = 4 then [stepAt bs 64]
  else if k = 36 then [stepAt bs 0]
  else [stepAt bs 0, stepAt bs 64]

/-! ## The judgement (R97) -/

/-- An exit passes: STEP to a step below the count, or END. -/
def StepExit.ok (e : StepExit) (steps : Nat) : Bool :=
  (e.kind == 0 && decide (e.value.toNat < steps)) || e.kind == 1

/-- The step checks of R97. -/
def StepRecord.ok (r : StepRecord) (steps patterns : Nat) : Bool :=
  let aBelow := decide (r.patternA.toNat < patterns)
  let bBelow := decide (r.patternB.toNat < patterns)
  (match Action.ofCode r.action with
    | none => false
    | some .send => decide (r.textLength.toNat ≤ 24)
    | some .armTrigger => aBelow
    | some _ => true)
  && (match Wait.ofCode r.wait with
    | none => false
    | some .match_ => aBelow
    | some .matchEither => aBelow && bBelow
    | some .matchThen => aBelow && bBelow
    | some _ => true)
  && r.success.ok steps && r.alternate.ok steps && r.timedOut.ok steps && r.failure.ok steps

def patternLengthOk (p : PatternRecord) : Bool := decide (1 ≤ p.length.toNat ∧ p.length.toNat ≤ 24)

/-- The lowest index below `count` of a record that fails. -/
def firstBad {α : Type} (ok : α → Bool) (count : Nat) (rs : List α) : Option Nat :=
  (rs.take count).findIdx? fun r => !ok r

/-- The checks of R97 in their order: the result and the index reported. -/
def judgeImage (sum : Word) (l : Loader) (b : Block) : LoadResult × Nat :=
  let steps := l.stepCount.toNat
  let patterns := l.patternCount.toNat
  if sum ≠ l.checksum then (.checksumBad, 0)
  else if steps < 1 ∨ 64 < steps ∨ 16 < patterns then (.countBad, 0)
  else match firstBad patternLengthOk patterns b.patterns with
    | some i => (.patternBad, i)
    | none =>
      match firstBad (fun r => r.ok steps patterns) steps b.steps with
      | some i => (.stepBad, i)
      | none => (.loaded, 0)

/-! ## A load concludes (R98) -/

/-- The target block of a concluded load: READY with the image's counts, or EMPTY with its records given up. -/
def Block.concluded (b : Block) (l : Loader) (r : LoadResult) : Block :=
  if r = .loaded then
    { b with state := .ready, stepCount := l.stepCount.toNat, patternCount := l.patternCount.toNat }
  else { b with state := .empty, stepCount := 0, patternCount := 0, steps := [], patterns := [] }

/-- The load in progress concludes with a result and an index (R98). No rule gives the Running Sum a value once a load
has concluded; keeping the last sum until the next LOAD sets it to 0 is the model's choice (log 40), and so is that the
remembered counts and checksum are dropped (log 43). -/
def State.concludeLoad (s : State) (l : Loader) (r : LoadResult) (index : Nat) : State :=
  let s := s.modBlock l.block fun b => b.concluded l r
  ({ s with store := { s.store with
      loader := none, loadResult := r, loadBlock := l.block.val, loadIndex := index } }).raiseStation .loadConcluded

/-- Whatever load is in progress concludes; none in progress, nothing to do (R99, R100). -/
def State.endLoad (s : State) (r : LoadResult) : State :=
  match s.store.loader with
  | none => s
  | some l => s.concludeLoad l r 0

/-- The bytes of the load's next transaction arrive (R96). -/
def State.loadBytes (s : State) (l : Loader) (bs : List Byte) : State :=
  let k := l.next
  let l := { l with
    next := k + 1
    stepCount := if k = 0 then wordAt bs 0 else l.stepCount
    patternCount := if k = 0 then wordAt bs 4 else l.patternCount
    checksum := if k = 0 then wordAt bs 8 else l.checksum }
  let s := s.modBlock l.block fun b => { b with
    steps := b.steps ++ loadSteps k bs, patterns := b.patterns ++ loadPatterns k bs }
  let s := { s with store := { s.store with loader := some l, sum := s.store.sum + sumWords (summedWords k bs) } }
  if k = 36 then
    let (r, i) := judgeImage s.store.sum l (s.block l.block)
    s.concludeLoad l r i
  else s

/-! ## LOAD and UNLOAD (R93 to R95) -/

/-- A station request is judged (R93): the block it may name, or the refusal. -/
def judgeStation (s : State) (isLoad : Bool) (blockIndex source : Word) : Except StationResult BlockNo :=
  if h : blockIndex.toNat < 16 then
    if isLoad ∧ source.toNat % 64 ≠ 0 then .error .badAddress
    else if (s.block ⟨blockIndex.toNat, h⟩).useCount ≠ 0 then .error .inUse
    else .ok ⟨blockIndex.toNat, h⟩
  else .error .badBlock

/-- A LOAD is accepted (R94). No rule gives the remembered Step Count, Pattern Count and Checksum a value before
transaction 0 brings them or while the Loader is idle; 0 until then, and none held when idle, is the model's choice
(log 43). -/
def State.acceptLoad (s : State) (b : BlockNo) (source : Word) : State :=
  let s := s.modBlock b fun k => { k with state := .loading, stepCount := 0, patternCount := 0, steps := [], patterns := [] }
  ({ s with store := { s.store with loader := some ⟨b, source, 0, 0, 0, 0⟩, sum := 0 } }).markHeader

/-- An UNLOAD is accepted (R95). -/
def State.acceptUnload (s : State) (b : BlockNo) : State :=
  (s.modBlock b fun k => { k with state := .empty, stepCount := 0, patternCount := 0, steps := [], patterns := [] }).markHeader

end Sys2Proof.Machine
end

