-- ==== Sys2Proof/Machine/Transmit.lean ====
section
/-! DEFINITION. The transmitter, the flow hold, breaks and the transmit owner of a line (R9, R15 to R21, R142). These
operations act on one Line alone. -/

namespace Sys2Proof.Machine

/-- A character is in progress (R15). -/
def Tx.isSending : Tx → Bool
  | .sending _ => true
  | _ => false

/-- A break is being sent. -/
def Tx.isBreak : Tx → Bool
  | .brk _ _ => true
  | _ => false

/-- The transmit period: the Fallback Period while the line is in the Detect Queue or measuring, else P (R9). -/
def Line.txPeriod (l : Line) : Nat :=
  if l.det.state = .queued ∨ l.det.state = .measuring then l.settings.fallback else l.period

/-- The character's bits on TXD in order: start, data (least significant first), parity, stop bits (R15). -/
def TxChar.bits (c : TxChar) : List Bool :=
  let width := match c.dataBits with | .seven => 7 | .eight => 8
  let data := (List.range width).map fun k => c.byte.getLsbD k
  let odd := data.foldl xor false
  let par := match c.parity with | .none => [] | .even => [odd] | .odd => [!odd]
  let stop := match c.stopBits with | .one => [true] | .two => [true, true]
  false :: data ++ par ++ stop

/-- The ticks a character in progress lasts (R15). -/
def TxChar.ticks (c : TxChar) : Nat := c.bits.length * c.period

/-- The level of TXD (R15): high in IDLE, GAP and HELD, low in BREAK; in SENDING the character's bit at so many ticks
after the start of its start bit, each bit lasting one transmit period. -/
def Tx.level (t : Tx) (ticks : Nat) : Bool :=
  match t with
  | .idle => true
  | .gap _ => true
  | .held => true
  | .brk _ _ => false
  | .sending c => c.bits.getD (ticks / c.period) true

/-- The TXD pin of a line, `ticks` after the start of the character in progress, if there is one. A line that is not ON
is IDLE, or finishing a character (R1, R21). -/
def State.txd (s : State) (n : LineNo) (ticks : Nat) : Bool := (s.line n).tx.level ticks

/-- The frame time in ticks with the settings and P in force (R23). -/
def Line.frameTicks (l : Line) : Nat :=
  let d := match l.settings.dataBits with | .seven => 7 | .eight => 8
  let p := match l.settings.parity with | .none => 0 | _ => 1
  let st := match l.settings.stopBits with | .one => 1 | .two => 2
  (1 + d + p + st) * l.period

/-! ## Breaks (R19, R20) -/

def startBreak (b : BreakOrder) : Tx := .brk b (timerStart b.length)

/-- A break order reaches the transmitter: from IDLE, GAP or HELD it starts at once, else it waits. -/
def Line.orderBreak (l : Line) (b : BreakOrder) : Line :=
  match l.tx with
  | .sending _ => { l with breaks := l.breaks ++ [b] }
  | .brk _ _ => { l with breaks := l.breaks ++ [b] }
  | _ => { l with tx := startBreak b }

/-- A gap of the length given, or IDLE when it is 0 (R16, R20). -/
def gapOf (ms : Nat) : Tx := if ms = 0 then .idle else .gap (timerStart ms)

/-- Where the transmitter goes at the end of a break (R20). -/
def Line.afterBreak (l : Line) : Line :=
  match l.breaks with
  | b :: rest => { l with tx := startBreak b, breaks := rest }
  | [] => { l with tx := if l.flowHeld then .held else gapOf l.settings.charGap }

/-- A cut of the breaks that the running step ordered (R20): one being sent ends at once, one waiting is removed. -/
def Line.cutStepBreaks (l : Line) : Line :=
  let l := { l with breaks := l.breaks.filter fun b => !b.byStep }
  match l.tx with
  | .brk b _ => if b.byStep then l.afterBreak else l
  | _ => l

/-! ## Character end (R16, R18, R19, R21) -/

/-- Where the transmitter goes at the end of character c's last stop bit: to a waiting break, to HELD if the hold is
set, to IDLE without a gap on a line that is not ON and after a leftover character (R4, R21), else to the gap it
earned. -/
def Line.afterChar (l : Line) (c : TxChar) : Line :=
  match l.breaks with
  | b :: rest => { l with tx := startBreak b, breaks := rest }
  | [] =>
    if l.flowHeld then { l with tx := .held }
    else if l.status ≠ .on ∨ c.leftover then { l with tx := .idle }
    else { l with tx := gapOf (if c.byte = 0x0D then l.settings.lineGap else l.settings.charGap) }

/-- The transmitter when its line goes OFF (R21): a character runs on, anything else ends and it is IDLE. -/
def Tx.lineOff : Tx → Tx
  | .sending c => .sending c
  | _ => .idle

/-- The transmitter when its line goes ON (R4): a character still in progress is reported to no source. -/
def Tx.lineOn : Tx → Tx
  | .sending c => .sending { c with source := .nobody, leftover := true }
  | _ => .idle

/-- The step or run that supplied a character in progress has ended: its character end counts for nobody (R108). -/
def Tx.dropScript : Tx → Tx
  | .sending c => .sending { c with source := if c.source = .script then .nobody else c.source }
  | t => t

/-! ## The flow hold (R17, R18) -/

/-- The hold becomes set; the hold limit timer starts if Hold Limit is non-zero. -/
def Line.setHold (l : Line) : Line :=
  if l.flowHeld then l
  else { l with
    flowHeld := true
    holdTimer := if l.settings.holdLimit = 0 then none else timerStart l.settings.holdLimit
    tx := match l.tx with
      | .idle => .held
      | .gap _ => .held
      | t => t }

/-- The hold becomes clear; a transmitter in HELD goes to IDLE. -/
def Line.clearHold (l : Line) : Line :=
  if !l.flowHeld then l
  else { l with
    flowHeld := false
    holdTimer := none
    tx := match l.tx with
      | .held => .idle
      | t => t }

/-! ## The transmit owner (R142, R144 to R146) -/

def Owner.isOperators (o : Owner) : Bool := o == .operator || o == .lent

/-- Owner In Force takes a value; leaving the operator empties the staging (R146). -/
def Line.enforce (l : Line) (o : Owner) : Line :=
  { l with
    ownerInForce := o
    staging := if l.ownerInForce.isOperators && !o.isOperators then [] else l.staging }

/-- Owner becomes o; Owner In Force follows at once unless a character is in progress (R142). -/
def Line.setOwner (l : Line) (o : Owner) : Line :=
  let l := { l with owner := o }
  if l.tx.isSending then l else l.enforce o

/-- The byte the source of the owner in force has ready (R16, R108, R146), with that source; `text` is what the
runner's SEND in progress offers. -/
def Line.readyByte (l : Line) (text : Option Byte) : Option (Byte × TxSource) :=
  match l.ownerInForce with
  | .free => none
  | .script => text.map fun b => (b, .script)
  | .operator => l.staging.head?.map fun b => (b, .operator)
  | .lent => l.staging.head?.map fun b => (b, .operator)

/-- The transmitter starts a character (R15, R16). -/
def Line.startChar (l : Line) (b : Byte) (src : TxSource) : Line :=
  { l with tx := .sending ⟨b, src, l.txPeriod, l.settings.dataBits, l.settings.parity, l.settings.stopBits, false⟩ }

/-! ## Outbound counts (R147, R148) -/

/-- The pending length: the distance from Sent to Fill Seen, or 0 when Sent has passed Fill Seen (R147; log 14). -/
def Line.pendingLength (l : Line) : Nat :=
  let d := dist l.sent l.fillSeen
  if l.settings.outboundSize < d then 0 else d

/-- An operator character is in progress whose byte is still staged. -/
def Line.stagedInProgress (l : Line) : Nat :=
  match l.tx with
  | .sending c => if c.source = .operator then 1 else 0
  | _ => 0

/-- A Fill read is applied (R147). -/
def Line.applyFill (l : Line) (fill : Word) : Line :=
  let l := { l with fillSeen := if l.settings.outboundSize < dist l.sent fill then l.sent else fill }
  { l with staging := l.staging.take (max l.pendingLength l.stagedInProgress) }

end Sys2Proof.Machine
end

