-- ==== Sys2Proof/Machine/Port.lean ====
section
/-! DEFINITION. The Memory Port and its five clients (10_memory_port.md, R64, R148, R163, R171): asking for turns,
forming transactions, tenures, faults. -/

namespace Sys2Proof.Machine

/-! ## Jobs and addresses -/

/-- The client a job belongs to (R175). -/
def Job.client : Job → Client
  | .startHeader => .scanner
  | .sweepHeader => .scanner
  | .sweepLine _ => .scanner
  | .capture _ => .capture
  | .fetch _ => .fetcher
  | .reportHeader => .report
  | .reportLine _ => .report
  | .load _ => .loader

/-- Whether a job writes to memory (R175). -/
def Job.isWrite : Job → Bool
  | .capture _ => true
  | .reportHeader => true
  | .reportLine _ => true
  | _ => false

/-- The address of a record's host section (R158). -/
def hostAddr (base : Word) : Record → Word
  | .header => base
  | .line n => base + 256 + BitVec.ofNat 32 (256 * n.val)

/-- The address of a record's part section (R158). -/
def partAddr (base : Word) (r : Record) : Word := hostAddr base r + 128

/-! ## The clients' work -/

/-- The lines counted upward from the line after p, wrapping from 31 to 0 (R64, R148). -/
def linesAfter (p : LineNo) : List LineNo := (List.finRange 32).map fun k => p + 1 + k

/-- The line the Capture Writer serves next (R64). -/
def State.captureLine (s : State) : Option LineNo := (linesAfter s.capturePos).find? fun n => (s.line n).captureReady

/-- Ready for the Outbound Fetcher (R148). No fetch is in flight when a transaction is chosen. -/
def Line.fetchReady (l : Line) : Bool :=
  l.status == .on && l.ownerInForce.isOperators && l.staging.isEmpty && decide (0 < l.pendingLength)

def State.fetchLine (s : State) : Option LineNo := (linesAfter s.fetchPos).find? fun n => (s.line n).fetchReady

/-- The bytes of a fetch (R148). -/
def Line.fetchLength (l : Line) : Nat :=
  min (min 64 l.pendingLength) (l.settings.outboundSize - l.sent.toNat % l.settings.outboundSize)

def Line.fetchAddr (l : Line) : Word :=
  l.settings.outboundBase + BitVec.ofNat 32 (l.sent.toNat % l.settings.outboundSize)

/-- The record is dirty and one the Report Writer writes (R171, R172). -/
def State.recordDirty (s : State) : Record → Bool
  | .header => s.reports.headerDirty
  | .line n => s.inUse n && s.reports.dirty.get n

/-- The records in the cyclic order HEADER, line 0, line 1, ..., from the record after r round to r (R171). -/
def recordsAfter (r : Record) : List Record :=
  let all := (List.finRange 32).map Record.line
  match r with
  | .header => all ++ [.header]
  | .line n => all.drop (n.val + 1) ++ [.header] ++ all.take (n.val + 1)

/-- The record the Report Writer writes next (R171); it writes only while RUNNING or STOPPING (R172). -/
def State.reportRecord (s : State) : Option Record :=
  if s.ctl.part = .running ∨ s.ctl.part = .stopping then (recordsAfter s.reports.position).find? s.recordDirty
  else none

/-- The record the Scanner reads next: the header of a start, or the one at Sweep Position (R163, R187). -/
def State.scanJob (s : State) : Option Job :=
  if s.ctl.part = .starting then some .startHeader
  else match s.scan.position with
    | none => none
    | some .header => some .sweepHeader
    | some (.line n) => some (.sweepLine n)

/-- The job a client would start now; none when it is not asking for a turn. -/
def State.jobOf (s : State) : Client → Option Job
  | .scanner => s.scanJob
  | .capture => s.captureLine.map Job.capture
  | .fetcher => s.fetchLine.map Job.fetch
  | .report => s.reportRecord.map fun r => match r with | .header => .reportHeader | .line n => .reportLine n
  | .loader => s.store.loader.map fun l => .load l.next

def State.asking (s : State) (c : Client) : Bool := (s.jobOf c).isSome

/-- The clients in the fixed cyclic order, from the one after c round to c (R174). -/
def clientsAfter : Client → List Client
  | .scanner => [.capture, .fetcher, .report, .loader, .scanner]
  | .capture => [.fetcher, .report, .loader, .scanner, .capture]
  | .fetcher => [.report, .loader, .scanner, .capture, .fetcher]
  | .report => [.loader, .scanner, .capture, .fetcher, .report]
  | .loader => [.scanner, .capture, .fetcher, .report, .loader]

/-- The first asking client, counted from the one after Last Served (R177, R179). -/
def State.firstAsking (s : State) : Option Client := (clientsAfter s.port.lastServed).find? s.asking

/-! ## Transactions (R175) -/

/-- The transaction of a job, formed from the state as it stands (R65, R91, R148, R163, R171). -/
def State.form (s : State) : Job → Transaction
  | .startHeader => ⟨.startHeader, hostAddr s.ctl.base .header, 128, [], false⟩
  | .sweepHeader => ⟨.sweepHeader, hostAddr s.ctl.base .header, 128, [], false⟩
  | .sweepLine n => ⟨.sweepLine n, hostAddr s.ctl.base (.line n), 128, [], false⟩
  | .capture n =>
    let l := s.line n
    ⟨.capture n, l.captureAddr, l.writable, l.cap.fifo.take l.writable, false⟩
  | .fetch n =>
    let l := s.line n
    ⟨.fetch n, l.fetchAddr, l.fetchLength, [], false⟩
  | .reportHeader => ⟨.reportHeader, partAddr s.ctl.base .header, 128, headerPart s, false⟩
  | .reportLine n => ⟨.reportLine n, partAddr s.ctl.base (.line n), 128, linePart (s.line n), false⟩
  | .load k =>
    let source := match s.store.loader with | some l => l.source | none => 0
    ⟨.load k, source + BitVec.ofNat 32 (128 * k), loadLength k, [], false⟩

/-- What starting a job changes in its client: a round-robin pointer, and for a report the record leaves the dirty
ones and its Held Causes move to Carried Causes (R64, R148, R171). -/
def State.clientStarts (s : State) : Job → State
  | .capture n => { s with capturePos := n }
  | .fetch n => { s with fetchPos := n }
  | .reportHeader => { s with reports := { s.reports with
      headerDirty := false, position := .header
      carriedStation := s.reports.heldStation, carried := 0, heldStation := 0 } }
  | .reportLine n => { s with reports := { s.reports with
      dirty := s.reports.dirty.set n.val false n.isLt, position := .line n
      carried := s.reports.held.get n, carriedStation := 0, held := s.reports.held.set n.val 0 n.isLt } }
  | _ => s

/-- A job's transaction starts (R177, R178). -/
def State.startJob (s : State) (j : Job) : State :=
  let t := s.form j
  let s := s.clientStarts j
  { s with port := { s.port with inFlight := some t, lastServed := j.client } }

/-! ## Tenures (R176, R177) -/

/-- An IDLE port with the flag clear raises HOLD when a client is asking, and remembers the client a GRANT fault
would be charged to (R176, R179). -/
def State.raiseHold (s : State) : State :=
  if s.port.bus = .idle ∧ s.port.flag = false then
    match s.firstAsking with
    | some c => { s with port := { s.port with bus := .requesting, grantClient := some c } }
    | none => s
  else s

/-- HOLD is lowered. -/
def State.lowerHold (s : State) : State := { s with port := { s.port with bus := .idle } }

/-- The job the round robin chooses (R177). -/
def State.nextJob (s : State) : Option Job := s.firstAsking.bind s.jobOf

/-- What the port does at the end of an event: a holding port with nothing in flight chooses the next transaction or
ends its tenure, after eight transactions or for want of work; an idle one raises HOLD if a client is asking. -/
def State.settlePort (s : State) : State :=
  if s.port.bus = .holding ∧ s.port.inFlight = none then
    if 8 ≤ s.port.tenure then s.lowerHold.raiseHold
    else match s.nextJob with
      | some j => s.startJob j
      | none => s.lowerHold
  else s.raiseHold

/-- The outcome of an event that has had its effect. -/
def State.finish (s : State) : Host.Outcome State Fault Refusal := .next s.settlePort

/-- The transaction in flight has completed: it leaves the port and counts in the tenure (R178). -/
def State.completed (s : State) : State :=
  { s with port := { s.port with inFlight := none, tenure := s.port.tenure + 1 } }

/-- A fetch or capture write for a line that its completion must not act on (R79, R149). -/
def State.makeStale (s : State) (p : Job → Bool) : State :=
  { s with port := { s.port with
      inFlight := s.port.inFlight.map fun t => if p t.job then { t with stale := true } else t } }

/-! ## Faults (R179, R180) -/

/-- A report write cut by a fault: its causes return to held and its record is dirty again (R171). -/
def State.returnCarried (s : State) : State :=
  match s.port.inFlight with
  | some t =>
    match t.job with
    | .reportHeader => { s with reports := { s.reports with
        headerDirty := true
        heldStation := s.reports.heldStation ||| s.reports.carriedStation, carriedStation := 0 } }
    | .reportLine n => { s with reports := { s.reports with
        dirty := s.reports.dirty.set n.val true n.isLt
        held := s.reports.held.set n.val (s.reports.held.get n ||| s.reports.carried) n.isLt, carried := 0 } }
    | _ => s
  | none => s

/-- What a fault does to the part state: it ends a start (R187), and it ends a stop whose wind-up is complete
(R192; log 31). -/
def Control.onFault (c : Control) : Control :=
  match c.part with
  | .starting => { c with part := .halted }
  | .stopping => if c.windUp then { c with part := .halted, windUp := false } else c
  | _ => c

/-- A fault is recorded (R179), and every client meets it (R180). -/
def State.recordFault (s : State) (kind : FaultKind) (client : Option Client) (addr : Word) : State :=
  let s := s.returnCarried
  let s := { s with
    port := { s.port with
      flag := true, faultKind := kind, faultClient := client, faultAddr := addr
      bus := .idle, inFlight := none }
    scan := { s.scan with position := none } }
  let s := s.endLoad .memoryFault
  let s := if s.ctl.part = .stopping then s.forLines fun n t => t.discardFifo n else s
  ({ s with ctl := s.ctl.onFault }).recordStation StationCause.memoryFault.bits

end Sys2Proof.Machine
end

