-- ==== Sys2Proof/Machine/Runner.lean ====
section
/-! DEFINITION. The Script Runner (06_running_scripts.md): steps, actions, waits, exits, the runaway guard, the end of
a run, and the detection's end as a step sees it. -/

namespace Sys2Proof.Machine

/-! ## The end of a run (R124) -/

/-- A trail with an entry added: never more than 8, the oldest leaves first (R123). -/
def pushTrail (trail : List TrailEntry) (e : TrailEntry) : List TrailEntry :=
  let t := trail ++ [e]
  t.drop (t.length - 8)

/-- The runner at the end of a run: the outcome record, IDLE, every timer stopped (R124). The MATCH_THEN phase is
discarded with the run (R60); that the discarded phase is A, its reset value, is the model's choice (log 33). That Text
Offset, Immediate Count and Count Remaining keep the values of the last step is the model's choice too (log 38). -/
def Runner.finish (r : Runner) (kind : OutcomeKind) (code : Byte) (exit : TrailExit) (now : Word) : Runner :=
  { r with
    last := some ⟨kind, code, if r.state = .queued then r.entry else r.current, exit, now⟩
    state := .idle
    actionResult := none
    stepTimer := none
    waitTimer := none
    phase := .a
    begun := true }

/-- The owner a run's end leaves (R145). -/
def Line.ownerAfterRun (l : Line) : Owner :=
  match l.owner with
  | .script => if l.claim then .operator else .free
  | .lent => if l.claim then .operator else .free
  | o => o

/-- A run ends (R124): the record, the Use Count, the owner, SCRIPT_ENDED. -/
def State.endRun (s : State) (n : LineNo) (kind : OutcomeKind) (code : Byte) (exit : TrailExit) : State :=
  let b := (s.line n).run.block
  let s := s.modLine n fun l =>
    ({ l with run := l.run.finish kind code exit s.now, tx := l.tx.dropScript }).setOwner l.ownerAfterRun
  ((s.modBlock b fun k => { k with useCount := k.useCount - 1 }).markHeader).raise n .scriptEnded

/-- A run is ended from outside, by an ABORT, line off or the stop (R124, R128, R129): a trail entry if a step had
started, the end, and the winding up of its work. -/
def State.cutRun (s : State) (n : LineNo) (kind : OutcomeKind) (exit : TrailExit) : State :=
  let s := s.modRun n fun r =>
    if r.state = .queued then r else { r with trail := pushTrail r.trail ⟨r.current, exit, s.now⟩ }
  let s := s.endRun n kind 0 exit
  let s := s.modLine n Line.cutStepBreaks
  (s.cancelDetection n).orderDrive n .rest

/-! ## Actions (R86, R107 to R113) -/

/-- How an action stands after the event in which it begins. -/
inductive Begun where
  | completed
  | failed (why : FailureReason)
  | inProgress
  deriving DecidableEq, Repr

def State.actNone (s : State) (_n : LineNo) : State × Begun := (s, .completed)

/-- SEND: with no text it completes at once, else its first byte is ready (R107, R108). -/
def State.actSend (s : State) (n : LineNo) : State × Begun :=
  (s, if (s.step n).textLength = 0 then .completed else .inProgress)

/-- BREAK: a clamped break order (R109). -/
def State.actBreak (s : State) (n : LineNo) : State × Begun :=
  (s.modLine n fun l => l.orderBreak ⟨breakLength (s.step n).actionArg.toNat, true⟩, .inProgress)

/-- PULSE: fails LOCKED on a locked line, else a clamped pulse order (R110, R140). -/
def State.actPulse (s : State) (n : LineNo) : State × Begun :=
  if s.locked n then (s, .failed .locked)
  else (s.orderPulse n (pulseWidth (s.step n).actionArg.toNat), .inProgress)

def State.actDrive (s : State) (n : LineNo) (to_ : OutputState) : State × Begun :=
  if s.locked n then (s, .failed .locked) else (s.orderDrive n to_, .completed)

/-- SET_RATE writes P alone (R7). -/
def State.actSetRate (s : State) (n : LineNo) : State × Begun :=
  (s.setPeriod n (ratePeriod (s.line n).settings.fallback (s.step n).actionArg.toNat), .completed)

/-- DETECT_RATE starts a detection, or takes over the one in progress (R26, R27, R111). -/
def State.actDetect (s : State) (n : LineNo) : State × Begun :=
  (if (s.line n).det.inProgress then s.modDet n fun d => { d with bound := true } else s.startDetection n true,
    .inProgress)

/-- ARM_TRIGGER: fails FROZEN on a frozen trigger, else arms it with pattern A (R73, R107). -/
def State.actArm (s : State) (n : LineNo) : State × Begun :=
  if (s.line n).cap.trigger = .frozen then (s, .failed .frozen)
  else (s.armTrigger n (Pattern.ofRecord (s.pattern n (s.step n).patternA)) (postCount (s.step n).actionArg.toNat),
    .completed)

/-- SIGNAL (R112). -/
def State.actSignal (s : State) (n : LineNo) : State × Begun :=
  ((s.modRun n fun r => { r with signalCode := byteArg (s.step n).actionArg.toNat, signalTime := s.now }).raise n
    .scriptSignal, .completed)

/-- LOAD_COUNTER (R113). -/
def State.actLoadCounter (s : State) (n : LineNo) : State × Begun :=
  ((s.modRun n fun r => { r with counter := byteArg (s.step n).actionArg.toNat }).mark n, .completed)

/-- COUNT_DOWN (R113). -/
def State.actCountDown (s : State) (n : LineNo) : State × Begun :=
  if (s.line n).run.counter = 0 then (s, .failed .counterZero)
  else ((s.modRun n fun r => { r with counter := r.counter - 1 }).mark n, .completed)

/-- The action of the step in progress begins (R106). -/
def State.act (s : State) (n : LineNo) : State × Begun :=
  match s.action n with
  | none => (s, .inProgress)
  | some .none => s.actNone n
  | some .send => s.actSend n
  | some .brk => s.actBreak n
  | some .pulse => s.actPulse n
  | some .driveActive => s.actDrive n .active
  | some .driveRest => s.actDrive n .rest
  | some .setRate => s.actSetRate n
  | some .detectRate => s.actDetect n
  | some .armTrigger => s.actArm n
  | some .signal => s.actSignal n
  | some .loadCounter => s.actLoadCounter n
  | some .countDown => s.actCountDown n

/-! ## Arming the wait (R114 to R118) -/

/-- The wait holds as it is armed (R114). -/
def State.waitHolds (s : State) (n : LineNo) : Bool :=
  match s.wait n with
  | some .none => true
  | some .count => countArg (s.step n).waitArg.toNat == 0
  | some .elapse => elapseTime (s.step n).waitArg.toNat == 0
  | some .marking => (s.line n).condition == .marking
  | some .spacing => (s.line n).condition == .spacing
  | _ => false

/-- The Wait Timer as a wait is armed (R115, R116). -/
def waitTimerOf (w : Option Wait) (arg : Nat) : Timer :=
  match w with
  | some .quiet => timerStart (quietTime arg)
  | some .elapse => timerStart (elapseTime arg)
  | _ => none

/-- The wait of the step in progress is armed: WAITING, script freshness 0, its timer and count (R114). -/
def State.armWait (s : State) (n : LineNo) : State :=
  let w := s.wait n
  let arg := (s.step n).waitArg.toNat
  (s.modLine n fun l => { l with
    scriptFresh := 0
    run := { l.run with
      state := .waiting
      actionResult := none
      waitTimer := waitTimerOf w arg
      countLeft := if w = some .count then countArg arg else l.run.countLeft } }).mark n

/-! ## Ending a step (R121 to R123) -/

def StepRecord.exit (r : StepRecord) : TrailExit → StepExit
  | .success => r.success
  | .alternate => r.alternate
  | .timeout => r.timedOut
  | _ => r.failure

/-- A step ends by an exit: steps 1 to 4 of R121 but for starting the next step, whose index is the answer. At an
Immediate Count of 64 a STEP exit ends the run RUNAWAY (R122). -/
def State.endStep (s : State) (n : LineNo) (exit : TrailExit) (immediate : Bool) : State × Option Nat :=
  let r := (s.line n).run
  let e := (s.step n).exit exit
  let count := if immediate then r.immediate + 1 else 0
  let runaway := e.kind = 0 ∧ 64 ≤ count
  let shown := if runaway then TrailExit.runaway else exit
  let s := s.modLine n fun l => { l with
    tx := l.tx.dropScript
    run := { l.run with
      stepTimer := none
      waitTimer := none
      immediate := count
      trail := pushTrail l.run.trail ⟨l.run.current, shown, s.now⟩ } }
  let s := s.mark n
  if runaway then (s.endRun n .runaway 0 .runaway, none)
  else if e.kind = 0 then (s, some e.value.toNat)
  else (s.endRun n .completed e.value exit, none)

/-- Step k starts, but for its action (R106). -/
def State.startStep (s : State) (n : LineNo) (k : Nat) : State :=
  let s := s.modRun n fun r => { r with
    state := .acting, current := k, textOffset := 0, actionResult := none, phase := .a, begun := false }
  (s.modRun n fun r => { r with stepTimer := stepTimerOf (s.step n).timeout.toNat }).mark n

/-- What follows the beginning of an action: nothing yet, or the wait is armed, or the step ends. The answer is the
step to start next, if any. -/
def State.afterAct (s : State) (n : LineNo) (b : Begun) (immediate : Bool) : State × Option Nat :=
  match b with
  | .inProgress => (s, none)
  | .failed why => (s.modRun n fun r => { r with failure := why }).endStep n .failure immediate
  | .completed =>
    let s := s.armWait n
    if s.waitHolds n then s.endStep n .success immediate else (s, none)

/-- The action of the step in progress has begun. -/
def State.beginAct (s : State) (n : LineNo) : State × Option Nat :=
  let (s', b) := (s.modRun n fun r => { r with begun := true }).act n
  s'.afterAct n b true

/-- Start a step, and in the same event each step that an immediate one leads to (R106, R121, R122). The guard ends
the chain before the fuel does: 66 starts are more than any event makes. -/
def State.runSteps : Nat → LineNo → State × Option Nat → State
  | 0, _, (s, _) => s
  | _ + 1, _, (s, none) => s
  | fuel + 1, n, (s, some k) => State.runSteps fuel n ((s.startStep n k).beginAct n)

def stepFuel : Nat := 67

/-- The steps that follow, in the same event. -/
def follow (n : LineNo) (p : State × Option Nat) : State := State.runSteps stepFuel n p

/-! ## Events as the runner meets them -/

/-- The step in progress ends by an exit in an event after the one that started it. -/
def State.exitStep (s : State) (n : LineNo) (exit : TrailExit) : State := follow n (s.endStep n exit false)

/-- The runner is ACTING, or PAUSED from ACTING with no result yet, on a step with this action, which has begun. -/
def State.inAction (s : State) (n : LineNo) (a : Action) : Bool :=
  let r := (s.line n).run
  (r.state == .acting || (r.state == .paused .acting && r.actionResult.isNone)) && s.action n == some a && r.begun

/-- The action in progress has ended in a later event: in ACTING the wait is armed or the step fails; in PAUSED the
end is noted (R121, R126). -/
def State.actionEnded (s : State) (n : LineNo) (a : Action) (failed : Option FailureReason) : State :=
  if s.inAction n a then
    if (s.line n).run.state = .acting then
      follow n (s.afterAct n (match failed with | none => .completed | some w => .failed w) false)
    else
      (s.modRun n fun r => { r with
        actionResult := some (if failed.isSome then .failed else .completed)
        failure := failed.getD r.failure }).mark n
  else s

/-- A QUEUED runner becomes ACTING at its entry step when the owner in force is SCRIPT (R105). -/
def State.startIfQueued (s : State) (n : LineNo) : State :=
  let l := s.line n
  if l.run.state = .queued ∧ l.ownerInForce = .script then follow n (s, some l.run.entry) else s

/-- Owner becomes o, with all that follows in the event (R105, R142). -/
def State.giveOwner (s : State) (n : LineNo) (o : Owner) : State :=
  let l := s.line n
  let l' := l.setOwner o
  let s := (s.modLine n fun _ => l').markIf n (l'.owner != l.owner || l'.ownerInForce != l.ownerInForce)
  if l'.tx.isSending then s else s.startIfQueued n

/-- The line condition becomes c (R22, R117). -/
def State.changeCondition (s : State) (n : LineNo) (c : Condition) : State :=
  let s := (s.modLine n fun l => { l.clearFresh with
    condition := c, conditionTime := s.now, lowRun := false, absentTimer := none, markTimer := none }).raise n
      .conditionChanged
  let w := match c with | .marking => Wait.marking | .spacing => Wait.spacing
  if (s.line n).run.state = .waiting ∧ s.wait n = some w then s.exitStep n .success else s

/-! ## The end of a detection, and failed attempts (R38, R40) -/

/-- A detection concludes, and a bound DETECT_RATE action is told (R40, R111, R126). -/
def State.concludeDetection (s : State) (n : LineNo) (o : DetectOutcome) : State :=
  let bound := (s.line n).det.bound
  let s := s.endDetection n o
  if bound then s.actionEnded n .detectRate (if o = .failed then some .detectFailed else none) else s

/-- An attempt has failed (R38). -/
def State.failAttempt (s : State) (n : LineNo) : State :=
  if (s.line n).det.attempts + 1 < 4 then s.requeue n
  else (s.modDet n fun d => { d with attempts := d.attempts + 1 }).concludeDetection n .failed

/-- The measurement is complete and snapping is carried out (R32, R34 to R36). -/
def State.measured (s : State) (n : LineNo) (pm : Nat) : State :=
  let l := s.line n
  let s := (s.modDet n fun d => { d with measured := some pm }).mark n
  match snap l.det.rejected l.settings.tolerance l.settings.rawAllowed pm with
  | some (a, p) => s.adopt n a p
  | none => s.failAttempt n

/-- Sixteen ticks have passed after the edge that waits (R31, R32). -/
def State.judgeEdge (s : State) (n : LineNo) : State :=
  let s := s.modDet n Detection.judgeEdge
  let d := (s.line n).det
  match d.least with
  | some pm => if 24 ≤ d.counted then s.measured n pm else s
  | none => s

end Sys2Proof.Machine
end

