-- ==== Sys2Proof/Machine/Lines.lean ====
section
/-! DEFINITION. A line goes ON and OFF (R2 to R5), its receiver forms frames (R10 to R13), its condition monitor judges
low runs (R22, R23). -/

namespace Sys2Proof.Machine

/-! ## Going OFF (R5, R78, R151) -/

/-- The line's own state as it goes OFF, but for its run, detection, trigger, FIFO and output. -/
def Line.goOff (l : Line) : Line :=
  { l with
    status := .off
    refusal := .none
    frame := none
    tx := l.tx.lineOff
    breaks := []
    flowHeld := false
    holdTimer := none
    lowRun := false
    runWithheld := false
    absentTimer := none
    markTimer := none
    owner := .free
    ownerInForce := if l.tx.isSending then l.ownerInForce else .free
    staging := [] }

/-- An ON line goes OFF (R5); its run, if any, ends with the outcome given (LINE_OFF, or STOPPED in the stop
sequence). -/
def State.lineOff (s : State) (n : LineNo) (kind : OutcomeKind) (exit : TrailExit) : State :=
  let s := if (s.line n).run.state = .idle then s else s.cutRun n kind exit
  let s := s.cancelDetection n
  let s := (s.triggerOff n).settleFifo n
  let s := s.orderDrive n .rest
  let s := s.makeStale fun j => j == .fetch n
  (s.modLine n Line.goOff).mark n

/-! ## Going ON (R4, R61, R79, R151) -/

/-- The capture state of a line that goes ON with the Taken just read (R4, R61). -/
def Capture.enable (c : Capture) (taken : Word) : Capture :=
  { Capture.reset with head := taken, tail := taken, taken := taken, matchTime := c.matchTime }

/-- The line's own state as it goes ON with the host section and format that passed validation (R4). The detection
record stays whole; R42 keeps a record until a detection starts or the line is enabled, and no rule says what an
enable with Rate Mode FIXED does to it: keeping it is the model's choice (log 37). -/
def Line.goOn (l : Line) (h : LineHost) (f : Format) : Line :=
  let st := Settings.load h f
  { l with
    status := .on
    refusal := .none
    settings := st
    clamped := anyClamped h
    period := match st.rateMode with | .fixed => st.bitPeriod | .detectOnEnable => st.fallback
    frame := none
    tx := l.tx.lineOn
    breaks := []
    flowHeld := false
    holdTimer := none
    condition := if l.rxd then .marking else .spacing
    lowRun := false
    runWithheld := false
    absentTimer := none
    markTimer := none
    garble := 0
    owner := .free
    ownerInForce := .free
    staging := []
    sent := h.fill
    fillSeen := h.fill
    history := []
    scriptFresh := 0
    trigFresh := 0
    cap := l.cap.enable h.taken }

/-- A line that passed validation goes ON (R4). -/
def State.lineOn (s : State) (n : LineNo) (h : LineHost) (f : Format) : State :=
  let s := s.makeStale fun j => j == .capture n
  let s := (s.modLine n fun l => l.goOn h f).mark n
  if f.rateMode = .detectOnEnable then s.startDetection n false else s

/-- Enable of a record just read is applied (R2, R3, R5). -/
def State.applyEnable (s : State) (n : LineNo) (h : LineHost) : State :=
  match (s.line n).status with
  | .on => if h.enable = 0 then s.lineOff n .lineOff .endedByLineOff else s
  | .off =>
    if h.enable = 0 then s
    else match validate h with
      | .ok f => s.lineOn n h f
      | .error r => (s.modLine n fun l => { l with status := .configBad, refusal := r }).raise n .lineRefused
  | .configBad =>
    if h.enable = 0 then (s.modLine n fun l => { l with status := .off, refusal := .none }).mark n
    else match validate h with
      | .ok f => s.lineOn n h f
      | .error r => (s.modLine n fun l => { l with refusal := r }).markIf n ((s.line n).refusal != r)

/-! ## The receiver (R10 to R12) -/

def Frame.dataCount (f : Frame) : Nat := match f.dataBits with | .seven => 7 | .eight => 8
def Frame.parityCount (f : Frame) : Nat := match f.parity with | .none => 0 | _ => 1

/-- All samples of a frame: start check, data bits, parity bit if any, first stop bit. -/
def Frame.sampleCount (f : Frame) : Nat := f.dataCount + f.parityCount + 2

/-- How many of the sample points k * P + floor(P/2) lie before a tick counted from the start edge (R10, R11). A
sample on an edge's own tick sees the new level (R52; log 4). -/
def samplesBefore (p t : Nat) : Nat := if t ≤ p / 2 then 0 else (t - p / 2 - 1) / p + 1

/-- An edge comes: the samples before it saw the level RXD had. -/
def Frame.pass (f : Frame) (ticks : Nat) (level : Bool) : Frame :=
  let t := f.elapsed + ticks
  let k := min (samplesBefore f.period t) f.sampleCount - f.samples.length
  { f with elapsed := t, samples := f.samples ++ List.replicate k level }

/-- The samples with those not yet taken at a level, up to k in all. -/
def Frame.samplesTo (f : Frame) (k : Nat) (level : Bool) : List Bool :=
  f.samples ++ List.replicate (k - f.samples.length) level

/-- The first k + 1 samples, the last of them taken now: those before it at the present level of RXD, the last one high
also where RXD rises on this very tick (R52; log 4). -/
def Frame.samplesNow (f : Frame) (k : Nat) (rxd rises : Bool) : List Bool :=
  let before := f.samplesTo k rxd
  before ++ List.replicate (k + 1 - before.length) (rxd || rises)

/-- A frame begins at a falling edge, with the format and period in force (R9, R10). -/
def Line.newFrame (l : Line) : Frame :=
  ⟨l.period, l.settings.dataBits, l.settings.parity, 0, false, [], true, true⟩

/-- The value of data bits, the first the least significant (R11). -/
def bitsValue (bs : List Bool) : Nat := bs.foldr (fun b v => 2 * v + if b then 1 else 0) 0

/-- The receiver's judgement at the stop sample (R12). -/
inductive Judged where
  | withheld
  | errored (c : Byte)
  | good (c : Byte)
  deriving DecidableEq, Repr

/-- Judge a frame whose samples are all taken (R12). -/
def Frame.judge (f : Frame) (samples : List Bool) : Judged :=
  let data := (samples.drop 1).take f.dataCount
  let par := (samples.drop (1 + f.dataCount)).take f.parityCount
  let stop := samples.getD (f.sampleCount - 1) true
  let odd := (data ++ par).foldl xor false
  let parityBad := match f.parity with | .none => false | .even => odd | .odd => !odd
  let c := BitVec.ofNat 8 (bitsValue data)
  if !stop && data.all (!·) then .withheld
  else if !stop || parityBad then .errored c
  else .good c

/-! ## Delivery (R13, R14, R17, R37, R53, R115, R116) -/

/-- A good character acts on the flow hold of a XONXOFF line (R17). -/
def State.flowCharacter (s : State) (n : LineNo) (c : Byte) : State :=
  let l := s.line n
  let l' :=
    if l.settings.flow = .xonxoff then
      if c = 0x13 then l.setHold else if c = 0x11 then l.clearHold else l
    else l
  (s.modLine n fun _ => l').markIf n (l'.flowHeld != l.flowHeld)

/-- The verifying Rate Finder takes a delivered character whose start edge came after the adoption (R37). -/
def State.verifyCharacter (s : State) (n : LineNo) (counted errored : Bool) : State :=
  let d := (s.line n).det
  if d.state = .verifying ∧ counted = true then
    if errored then
      let s := s.modDet n fun d => { d with
        rejected := match d.adoption with | .entry e => d.rejected ||| BitVec.ofNat 12 (2 ^ e.val) | _ => d.rejected }
      s.failAttempt n
    else
      let s := s.modDet n fun d => { d with verified := d.verified + 1 }
      if 4 ≤ d.verified + 1 then s.concludeDetection n .settled else s
  else s

/-- A WAITING runner takes a delivered character: the match handed to it, the QUIET timer, the COUNT (R115 to R118). -/
def State.runnerCharacter (s : State) (n : LineNo) (m : ScriptMatch) (eligible : Bool) : State :=
  let arg := (s.step n).waitArg.toNat
  match s.wait n with
  | some .match_ => if m = .a then s.exitStep n .success else s
  | some .matchEither =>
    match m with
    | .a => s.exitStep n .success
    | .b => s.exitStep n .alternate
    | .nothing => s
  | some .matchThen =>
    match m with
    | .a => (s.modLine n fun l => { l with scriptFresh := 0, run := { l.run with phase := .b } }).mark n
    | .b => s.exitStep n .success
    | .nothing => s
  | some .quiet => s.modRun n fun r => { r with waitTimer := timerStart (quietTime arg) }
  | some .count =>
    if eligible then
      let s := s.modRun n fun r => { r with countLeft := r.countLeft - 1 }
      if (s.line n).run.countLeft = 0 then s.exitStep n .success else s
    else s
  | _ => s

/-- A character is delivered to its consumers as one event (R13). Both judgements of the Match Engine are made on the
state as the character enters the history; then the trigger, the Rate Finder, the flow hold and the runner act, the
runner only if it was WAITING as the character came (log 18). -/
def State.deliver (s : State) (n : LineNo) (c : Byte) (errored counted : Bool) : State :=
  let l := s.line n
  let eligible := !errored && l.eligible c
  let waiting := l.run.state = .waiting
  let s := s.offer n c
  let s :=
    if errored then
      (s.modLine n fun l => { l.clearFresh with garble := satAdd 65535 l.garble 1 }).markIf n (l.garble != 65535)
    else if eligible then s.modLine n fun l => l.enterHistory c
    else s
  let m := if eligible then s.scriptMatch n else .nothing
  let s := if eligible && (s.line n).triggerMatches then s.triggerMatched n else s
  let s := s.verifyCharacter n counted errored
  let s := if errored then s else s.flowCharacter n c
  if waiting then s.runnerCharacter n m eligible else s

/-! ## The condition monitor (R22, R23) -/

/-- A break has been seen (R23). -/
def State.breakSeen (s : State) (n : LineNo) : State :=
  (s.modLine n fun l => { l.clearFresh with breakTime := s.now }).raise n .breakSeen

/-- RXD falls, as the receiver and the monitor of an ON line see it (R10, R22). -/
def Line.fall (l : Line) (ticks : Nat) : Line :=
  let l := { l with
    rxd := false
    frame := some (match l.frame with | some f => f.pass ticks true | none => l.newFrame) }
  match l.condition with
  | .marking => { l with lowRun := true, runWithheld := false, absentTimer := timerStart l.settings.absentTime }
  | .spacing => { l with markTimer := none }

/-- RXD rises, as the receiver and the monitor of an ON line see it; the judgement of the low run is the caller's. -/
def Line.rise (l : Line) (ticks : Nat) : Line :=
  let l := { l with
    rxd := true
    frame := l.frame.map fun f => { Frame.pass f ticks false with unbroken := false } }
  match l.condition with
  | .marking => { l with lowRun := false, runWithheld := false, absentTimer := none }
  | .spacing => { l with markTimer := timerStart 10 }

/-- A low run of so many ticks that began in MARKING was a break (R23). -/
def Line.wasBreak (l : Line) (ticks : Nat) : Bool :=
  l.condition == .marking && l.lowRun && (decide (l.frameTicks ≤ ticks) || l.runWithheld)

/-- An edge reaches the measurement of a MEASURING line; a run still unjudged after sixteen ticks is judged first
(R30, R31; log 21). -/
def State.measureEdge (s : State) (n : LineNo) (ticks : Nat) (falling : Bool) : State :=
  let d := (s.line n).det
  if d.state = .measuring then
    let s := if d.meas.edge && decide (16 ≤ ticks) then s.judgeEdge n else s
    if (s.line n).det.state = .measuring then
      s.modDet n fun d => { d with meas := d.meas.onEdge ticks falling }
    else s
  else s

end Sys2Proof.Machine
end

