-- ==== Sys2Proof/Machine/Requests.lean ====
section
/-! DEFINITION. The line requests (R104, R140, R152 to R156): judging each, its effect, and the record of its result
(R168). The meanings of the request rows of the table are at the end. -/

namespace Sys2Proof.Machine

/-! ## Judging and carrying out, one request at a time -/

/-- START (R104, R145): accepted, the runner is QUEUED, the Use Count rises and a FREE owner becomes SCRIPT. -/
def State.acceptStart (s : State) (n : LineNo) (b : BlockNo) (entry : Nat) : State :=
  let s := s.modRun n fun r => { r with
    state := .queued, block := b, entry := entry, counter := 0, immediate := 0, trail := [], failure := .none }
  let s := ((s.modBlock b fun k => { k with useCount := k.useCount + 1 }).markHeader).mark n
  if (s.line n).owner = .free then s.giveOwner n .script else s

def State.judgeStart (s : State) (n : LineNo) (block entry : Word) : State × ReqResult :=
  if (s.line n).run.state ≠ .idle then (s, .notIdle)
  else if h : block.toNat < 16 then
    let b : BlockNo := ⟨block.toNat, h⟩
    if (s.block b).state ≠ .ready then (s, .blockNotReady)
    else if (s.block b).stepCount ≤ entry.toNat then (s, .stepRange)
    else if !s.isOn n then (s, .lineOff)
    else (s.acceptStart n b entry.toNat, .accepted)
  else (s, .blockNotReady)

/-- PAUSE of a runner in the state left (R125, R145). Its timers keep their remaining time; one already due stays due
and is taken only after the RESUME, with no further advance (log 34). -/
def State.acceptPause (s : State) (n : LineNo) (left : PausedFrom) : State :=
  let s := (s.modRun n fun r => { r with state := .paused left }).mark n
  let l := s.line n
  if l.owner = .script ∧ l.claim = true then s.giveOwner n .lent else s

def State.judgePause (s : State) (n : LineNo) : State × ReqResult :=
  if !s.isOn n then (s, .lineOff)
  else match (s.line n).run.state with
    | .acting => (s.acceptPause n .acting, .accepted)
    | .waiting => (s.acceptPause n .waiting, .accepted)
    | _ => (s, .notRunning)

/-- RESUME (R127, R145): script freshness 0, the owner back to SCRIPT, and the runner goes on from where it paused. A
resumed step is not immediate. The owner is settled before the runner goes on, so a LENT line whose run ends in this
very event has passed through SCRIPT and lost its staged bytes (R146): the model's order (log 35). -/
def State.acceptResume (s : State) (n : LineNo) (from_ : PausedFrom) : State :=
  let result := (s.line n).run.actionResult
  let s := (s.modLine n fun l => { l with
    scriptFresh := 0
    run := { l.run with
      state := match from_ with | .acting => .acting | .waiting => .waiting
      actionResult := none } }).mark n
  let s := if (s.line n).owner = .lent then s.giveOwner n .script else s
  match from_, result with
  | .acting, none => s
  | .acting, some .completed => follow n (s.afterAct n .completed false)
  | .acting, some .failed => s.exitStep n .failure
  | .waiting, _ =>
    match s.wait n, (s.line n).condition with
    | some .marking, .marking => s.exitStep n .success
    | some .spacing, .spacing => s.exitStep n .success
    | _, _ => s

def State.judgeResume (s : State) (n : LineNo) : State × ReqResult :=
  if !s.isOn n then (s, .lineOff)
  else match (s.line n).run.state with
    | .paused from_ => (s.acceptResume n from_, .accepted)
    | _ => (s, .notPaused)

/-- ABORT: accepted in every state; it changes nothing on an IDLE runner (R128, R153). -/
def State.judgeAbort (s : State) (n : LineNo) : State × ReqResult :=
  (if (s.line n).run.state = .idle then s else s.cutRun n .aborted .endedByAbort, .accepted)

/-- BREAK (R154). -/
def State.judgeBreak (s : State) (n : LineNo) (length : Word) : State × ReqResult :=
  let l := s.line n
  if !s.isOn n then (s, .lineOff)
  else if l.owner = .script then (s, .owner)
  else if l.tx.isBreak || !l.breaks.isEmpty then (s, .busy)
  else (s.modLine n fun l => l.orderBreak ⟨breakLength length.toNat, false⟩, .accepted)

/-- The tests that the three output requests share (R140); none when they pass. -/
def State.outputRefusal (s : State) (n : LineNo) : Option ReqResult :=
  if !s.isOn n then some .lineOff
  else if s.locked n then some .locked
  else if (s.line n).run.state ≠ .idle then some .scriptRunning
  else none

def State.judgePulse (s : State) (n : LineNo) (width : Word) : State × ReqResult :=
  match s.outputRefusal n with
  | some r => (s, r)
  | none => (s.orderPulse n (pulseWidth width.toNat), .accepted)

def State.judgeDrive (s : State) (n : LineNo) (to_ : OutputState) : State × ReqResult :=
  match s.outputRefusal n with
  | some r => (s, r)
  | none => (s.orderDrive n to_, .accepted)

/-- The line's own state after an accepted APPLY (R8, R196). -/
def Line.applySettings (l : Line) (h : LineHost) (f : Format) : Line :=
  let st := l.settings.apply h f
  let l := if f.flow = .none ∧ l.flowHeld = true then l.clearHold else l
  { l with
    settings := st
    clamped := anyClamped h
    period := match f.rateMode with | .fixed => st.bitPeriod | .detectOnEnable => l.period }

/-- APPLY (R8, R155). -/
def State.judgeApply (s : State) (n : LineNo) (h : LineHost) : State × ReqResult :=
  let l := s.line n
  if !s.isOn n then (s, .lineOff)
  else if l.run.state ≠ .idle ∨ l.det.inProgress = true then (s, .busy)
  else match formatOf h with
    | none => (s, .invalid)
    | some f => ((s.modLine n fun l => l.applySettings h f).mark n, .accepted)

/-- DETECT (R155). -/
def State.judgeDetect (s : State) (n : LineNo) : State × ReqResult :=
  let l := s.line n
  if !s.isOn n then (s, .lineOff)
  else if l.run.state ≠ .idle ∨ l.det.inProgress = true then (s, .busy)
  else (s.startDetection n false, .accepted)

/-- ARM_TRIGGER (R156, R46). -/
def State.judgeArm (s : State) (n : LineNo) (post : Word) (p : PatternRecord) : State × ReqResult :=
  if !s.isOn n then (s, .lineOff)
  else if (s.line n).cap.trigger = .frozen then (s, .frozen)
  else (s.armTrigger n (Pattern.ofRecord p) (postCount post.toNat), .accepted)

/-- DISARM (R77, R156). -/
def State.judgeDisarm (s : State) (n : LineNo) : State × ReqResult :=
  match (s.line n).cap.trigger with
  | .armed => (s.triggerOff n, .accepted)
  | .counting => (s.triggerOff n, .accepted)
  | _ => (s, .accepted)

/-- THAW (R77, R156). -/
def State.judgeThaw (s : State) (n : LineNo) : State × ReqResult := (s.triggerOff n, .accepted)

/-! ## Taking a request (R168) -/

/-- The judgement's result is recorded with the tag: the record is dirty and REQUEST_TAKEN is raised. -/
def State.recordResult (n : LineNo) (tag : Word) (p : State × ReqResult) : State :=
  (p.1.modLine n fun l => { l with takenTag := some tag, result := p.2 }).raise n .requestTaken

/-- The request in a slot is judged by its code (R152; 13_record_layouts.md, Codes). -/
def State.judgeRequest (s : State) (n : LineNo) (h : LineHost) : State × ReqResult :=
  match h.code.toNat with
  | 1 => s.judgeStart n h.argA h.argB
  | 2 => s.judgePause n
  | 3 => s.judgeResume n
  | 4 => s.judgeAbort n
  | 5 => s.judgeBreak n h.argA
  | 6 => s.judgePulse n h.argA
  | 7 => s.judgeDrive n .active
  | 8 => s.judgeDrive n .rest
  | 9 => s.judgeApply n h
  | 10 => s.judgeDetect n
  | 11 => s.judgeArm n h.argA h.trigger
  | 12 => s.judgeDisarm n
  | 13 => s.judgeThaw n
  | _ => (s, .unknownCode)

/-- A line's request slot is examined (R168). -/
def State.examineSlot (s : State) (n : LineNo) (h : LineHost) : State :=
  match (s.line n).takenTag with
  | none => (s.modLine n fun l => { l with takenTag := some h.tag, result := .none }).mark n
  | some t => if t = h.tag then s else State.recordResult n h.tag (s.judgeRequest n h)

/-! ## The request rows: a taken request, given with its tag and arguments (log 8) -/

/-- Requests are taken only while the part is RUNNING, on lines in use (R158, R191). -/
def State.takes (s : State) (n : LineNo) : Bool := s.ctl.part == .running && s.inUse n

def execStartRequest (n : LineNo) (tag block entry : Word) (s : State) : Host.Outcome State Fault Refusal :=
  if s.takes n then (State.recordResult n tag (s.judgeStart n block entry)).finish else .next s

def execPauseRequest (n : LineNo) (tag : Word) (s : State) : Host.Outcome State Fault Refusal :=
  if s.takes n then (State.recordResult n tag (s.judgePause n)).finish else .next s

def execResumeRequest (n : LineNo) (tag : Word) (s : State) : Host.Outcome State Fault Refusal :=
  if s.takes n then (State.recordResult n tag (s.judgeResume n)).finish else .next s

def execAbortRequest (n : LineNo) (tag : Word) (s : State) : Host.Outcome State Fault Refusal :=
  if s.takes n then (State.recordResult n tag (s.judgeAbort n)).finish else .next s

def execBreakRequest (n : LineNo) (tag length : Word) (s : State) : Host.Outcome State Fault Refusal :=
  if s.takes n then (State.recordResult n tag (s.judgeBreak n length)).finish else .next s

def execPulseRequest (n : LineNo) (tag width : Word) (s : State) : Host.Outcome State Fault Refusal :=
  if s.takes n then (State.recordResult n tag (s.judgePulse n width)).finish else .next s

def execDriveActiveRequest (n : LineNo) (tag : Word) (s : State) : Host.Outcome State Fault Refusal :=
  if s.takes n then (State.recordResult n tag (s.judgeDrive n .active)).finish else .next s

def execDriveRestRequest (n : LineNo) (tag : Word) (s : State) : Host.Outcome State Fault Refusal :=
  if s.takes n then (State.recordResult n tag (s.judgeDrive n .rest)).finish else .next s

def execApplyRequest (n : LineNo) (tag : Word) (h : LineHost) (s : State) : Host.Outcome State Fault Refusal :=
  if s.takes n then (State.recordResult n tag (s.judgeApply n h)).finish else .next s

def execDetectRequest (n : LineNo) (tag : Word) (s : State) : Host.Outcome State Fault Refusal :=
  if s.takes n then (State.recordResult n tag (s.judgeDetect n)).finish else .next s

def execArmTriggerRequest (n : LineNo) (tag post : Word) (p : PatternRecord) (s : State) :
    Host.Outcome State Fault Refusal :=
  if s.takes n then (State.recordResult n tag (s.judgeArm n post p)).finish else .next s

def execDisarmRequest (n : LineNo) (tag : Word) (s : State) : Host.Outcome State Fault Refusal :=
  if s.takes n then (State.recordResult n tag (s.judgeDisarm n)).finish else .next s

def execThawRequest (n : LineNo) (tag : Word) (s : State) : Host.Outcome State Fault Refusal :=
  if s.takes n then (State.recordResult n tag (s.judgeThaw n)).finish else .next s

/-- A code that names a request is not this row's (Instr.wf). -/
def execUnknownCodeRequest (n : LineNo) (tag code : Word) (s : State) : Host.Outcome State Fault Refusal :=
  if s.takes n && decide (code.toNat = 0 ∨ 13 < code.toNat) then
    (State.recordResult n tag (s, .unknownCode)).finish
  else .next s

end Sys2Proof.Machine
end

