-- ==== Sys2Proof/Machine/Sweep.lean ====
section
/-! DEFINITION. The sweep (R162 to R168), the station requests (R93), the start's header read (R187), and the meanings
of their rows. -/

namespace Sys2Proof.Machine

/-! ## Starting and moving a sweep -/

/-- A pending sweep may start (R162). -/
def State.sweepMayStart (s : State) : Bool :=
  s.scan.pending && s.scan.position.isNone && s.ctl.part == .running && !s.port.flag

/-- A pending sweep starts if it may: Sweep Pending is cleared and Sweep Position is HEADER (R162). -/
def State.startSweep (s : State) : State :=
  if s.sweepMayStart then { s with scan := { s.scan with pending := false, position := some .header } } else s

/-- Sweep Pending is set, and the sweep starts in this event if it may; setting it while it is already set changes
nothing (R162; log 9). -/
def State.askSweep (s : State) : State :=
  if s.scan.pending then s else ({ s with scan := { s.scan with pending := true } }).startSweep

/-- The sweep ends (R166); a pending one starts in the same event. -/
def State.endSweep (s : State) : State :=
  ((({ s with scan := { s.scan with position := none, lastTime := s.now } }).markHeader)).startSweep

/-- Sweep Position moves on from line n (R163). -/
def State.sweepOn (s : State) (n : LineNo) : State :=
  if h : n.val + 1 < 32 then
    if n.val + 1 < s.linesInUse then
      { s with scan := { s.scan with position := some (.line ⟨n.val + 1, h⟩) } }
    else s.endSweep
  else s.endSweep

/-! ## The station request slot (R93, R168) -/

/-- A station request's judgement is recorded with its tag (R168). -/
def State.recordStationResult (tag : Word) (p : State × StationResult) : State :=
  ({ p.1 with scan := { p.1.scan with tag := some tag, result := p.2 } }).raiseStation .stationRequestTaken

/-- LOAD is judged and carried out (R93, R94). -/
def State.judgeLoad (s : State) (blockIndex source : Word) : State × StationResult :=
  match judgeStation s true blockIndex source with
  | .ok b => (s.acceptLoad b source, .accepted)
  | .error r => (s, r)

/-- UNLOAD is judged and carried out (R93, R95). -/
def State.judgeUnload (s : State) (blockIndex : Word) : State × StationResult :=
  match judgeStation s false blockIndex 0 with
  | .ok b => (s.acceptUnload b, .accepted)
  | .error r => (s, r)

def State.judgeStationRequest (s : State) (h : HeaderHost) : State × StationResult :=
  match h.code.toNat with
  | 1 => s.judgeLoad h.blockIndex h.source
  | 2 => s.judgeUnload h.blockIndex
  | _ => (s, .unknownCode)

/-- The station request slot is examined: a new request waits while the Loader is busy (R168). -/
def State.examineStation (s : State) (h : HeaderHost) : State :=
  match s.scan.tag with
  | none => ({ s with scan := { s.scan with tag := some h.tag, result := .none } }).markHeader
  | some t =>
    if t = h.tag then s
    else if s.store.loader.isSome then s
    else State.recordStationResult h.tag (s.judgeStationRequest h)

/-! ## Acting on a record (R164, R165) -/

/-- The two masks of a header read are handed to the Notice Unit (R164, R187). -/
def State.takeMasks (s : State) (h : HeaderHost) : State :=
  { s with notices := { s.notices with
      lineMask := h.lineMask.truncate 12, stationMask := h.stationMask.truncate 4 } }

/-- The header read of a sweep is acted on (R164). -/
def State.actOnHeader (s : State) (h : HeaderHost) : State :=
  let i := clamp 1 1000 h.interval.toNat
  let s' := { s with scan := { s.scan with interval := i } }
  let s' := if i = s.scan.interval then s' else s'.markHeader
  (s'.takeMasks h).examineStation h

/-- The Fill of a record is applied on an ON line (R147). -/
def State.applyFill (s : State) (n : LineNo) (fill : Word) : State :=
  let l := s.line n
  if l.status = .on then
    (s.modLine n fun l => l.applyFill fill).markIf n ((l.applyFill fill).fillSeen != l.fillSeen)
  else s

/-- The owner that a change of Claim gives (R144); none when it changes nothing. -/
def claimOwner (o : Owner) (claim : Bool) (r : RunnerState) : Option Owner :=
  match o, claim with
  | .free, true => some .operator
  | .operator, false => if r = .queued then some .script else some .free
  | .script, true => match r with | .paused _ => some .lent | _ => none
  | .lent, false => some .script
  | _, _ => none

/-- The Operator Claim of a record is taken (R143, R144); `wentOn`: the line went ON at this read. -/
def State.applyClaim (s : State) (n : LineNo) (claim wentOn : Bool) : State :=
  let l := s.line n
  let s := (s.modLine n fun l => { l with claim := claim, claimSeen := claim }).markIf n (l.claimSeen != claim)
  if l.status = .on ∧ (l.claim ≠ claim ∨ (wentOn = true ∧ claim = true)) then
    match claimOwner l.owner claim l.run.state with
    | some o => s.giveOwner n o
    | none => s
  else s

/-- The read of a line's host section is acted on, in the order of R143. Taken goes to a line that is ON or drains
(R68); that a CONFIG_BAD line with Draining set is handed it too is the model's reading (log 16). -/
def State.actOnLine (s : State) (n : LineNo) (h : LineHost) : State :=
  let wasOn := s.isOn n
  let s := s.applyEnable n h
  let wentOn := !wasOn && s.isOn n
  let s := if (s.line n).captures then s.applyTaken n h.taken else s
  let s := s.applyFill n h.fill
  let s := s.applyClaim n (h.claim != 0) wentOn
  s.examineSlot n h

/-! ## The start (R187) -/

/-- Lines at or beyond the latched Lines In Use leave the Dirty Set and lose their Held Causes (R172). -/
def Reports.latch (r : Reports) (lines : Nat) : Reports :=
  { r with
    dirty := Vector.ofFn fun n => r.dirty.get n && decide (n.val < lines)
    held := Vector.ofFn fun n => if n.val < lines then r.held.get n else 0 }

/-- The header read of a start is acted on: everything latched, the part RUNNING, the first sweep begun. -/
def State.actOnStart (s : State) (h : HeaderHost) : State :=
  let lines := clamp 1 32 h.linesInUse.toNat
  let interval := clamp 1 1000 h.interval.toNat
  let s := { s with
    linesInUse := lines
    reports := s.reports.latch lines
    lockSet := s.lockSet ||| h.lock
    scan := { s.scan with interval := interval, timer := timerStart interval, pending := true, position := none }
    ctl := { s.ctl with part := .running, windUp := false } }
  ((s.takeMasks h).markHeader).startSweep

/-! ## The meanings of the rows -/

/-- SWEEP_TIMER_EXPIRY (R162): the timer reloads at once. -/
def execSweepTimerExpiry (s : State) : Host.Outcome State Fault Refusal :=
  if s.ctl.part = .running ∧ timerDue s.scan.timer = true then
    (({ s with scan := { s.scan with timer := timerStart s.scan.interval } }).askSweep).finish
  else .next s

/-- SWEEP_START (R162). -/
def execSweepStart (s : State) : Host.Outcome State Fault Refusal :=
  if s.sweepMayStart then s.startSweep.finish else .next s

/-- HEADER_READ_COMPLETE (R163, R164); the content of a read made stale by a stop is discarded (R167). -/
def execHeaderReadComplete (bytes : List Byte) (s : State) : Host.Outcome State Fault Refusal :=
  match s.port.inFlight with
  | some t =>
    if t.job = .sweepHeader ∧ bytes.length = 128 then
      if t.stale then s.completed.finish
      else
        let s := { s.completed with scan := { s.scan with position := some (.line 0) } }
        (s.actOnHeader (headerHostOf bytes)).finish
    else .next s
  | none => .next s

/-- LINE_RECORD_READ_COMPLETE (R163, R165, R166). -/
def execLineRecordReadComplete (bytes : List Byte) (s : State) : Host.Outcome State Fault Refusal :=
  match s.port.inFlight with
  | some t =>
    match t.job with
    | .sweepLine n =>
      if bytes.length = 128 then
        if t.stale then s.completed.finish
        else ((s.completed.actOnLine n (lineHostOf bytes)).sweepOn n).finish
      else .next s
    | _ => .next s
  | none => .next s

/-- START_HEADER_READ_COMPLETE (R187); a read left over from a start given up is discarded. -/
def execStartHeaderReadComplete (bytes : List Byte) (s : State) : Host.Outcome State Fault Refusal :=
  match s.port.inFlight with
  | some t =>
    if t.job = .startHeader ∧ bytes.length = 128 then
      if t.stale then s.completed.finish else (s.completed.actOnStart (headerHostOf bytes)).finish
    else .next s
  | none => .next s

/-- A station request is taken only while RUNNING with the Loader idle (R93, R191) and the Fault Flag clear (R181). -/
def State.takesStation (s : State) : Bool := s.ctl.part == .running && s.store.loader.isNone && !s.port.flag

/-- LOAD_REQUEST: a taken LOAD, given with its tag and arguments (R93, R94; log 8). -/
def execLoadRequest (tag blockIndex source : Word) (s : State) : Host.Outcome State Fault Refusal :=
  if s.takesStation then (State.recordStationResult tag (s.judgeLoad blockIndex source)).finish else .next s

/-- UNLOAD_REQUEST (R93, R95). -/
def execUnloadRequest (tag blockIndex : Word) (s : State) : Host.Outcome State Fault Refusal :=
  if s.takesStation then (State.recordStationResult tag (s.judgeUnload blockIndex)).finish else .next s

/-- UNKNOWN_STATION_CODE (R93); a code that names a request is not this row's (Instr.wf). -/
def execUnknownStationCode (tag code : Word) (s : State) : Host.Outcome State Fault Refusal :=
  if s.takesStation && decide (code.toNat = 0 ∨ 2 < code.toNat) then
    (State.recordStationResult tag (s, .unknownCode)).finish
  else .next s

end Sys2Proof.Machine
end

