-- ==== Sys2Proof/Machine/Registers.lean ====
section
/-! DEFINITION. The register port, start and stop, the resets, the Time Base (11_registers_notices_and_start_up.md,
R159, R160, R182), and the meanings of their rows. -/

namespace Sys2Proof.Machine

/-! ## Resets (R193) -/

/-- A line after a reset: its reset values, with RXD as the console drives it. -/
def Line.afterReset (l : Line) : Line := { Line.reset with rxd := l.rxd }

/-- Every register and block takes its reset value; the input pins stay as driven from outside, the queue of commands
is not the part's (log 12), and the Lock Set is the caller's. -/
def State.resetTo (s : State) (lock : Word) (inReset : Bool) : State :=
  { State.reset with
    lines := s.lines.map Line.afterReset
    port := { Port.reset with holda := s.port.holda }
    ctl := { Control.reset with inReset := inReset }
    lockSet := lock
    pending := s.pending }

/-- PIN_RESET (R193): RESETN is low, and the Lock Set is emptied (R139). -/
def execPinReset (s : State) : Host.Outcome State Fault Refusal := .next (s.resetTo 0 true)

/-- RESETN_RISE (R193): the part begins in HALTED with the Time Base at 0. -/
def execResetnRise (s : State) : Host.Outcome State Fault Refusal :=
  if s.ctl.inReset then .next { s with ctl := { s.ctl with inReset := false } } else .next s

/-! ## Start and stop (R187, R191, R192) -/

/-- RUN written 1 (R186, R187). R170 and R173 have a change of the part state mark the header dirty, and R187 names no
mark at the start; that HALTED to STARTING marks nothing is the model's choice (log 42). -/
def State.runOne (s : State) : State :=
  if s.ctl.part = .halted ∧ s.ctl.base ≠ 0 ∧ s.port.flag = false then
    { s with ctl := { s.ctl with part := .starting, windUp := false } }
  else s

/-- A scanner's read in flight will be discarded (R167, R187). -/
def State.staleScan (s : State) : State := s.makeStale fun j => j.client == .scanner

/-- A line in the stop sequence (R80, R191). -/
def State.stopLine (s : State) (n : LineNo) : State :=
  let l := s.line n
  let resettled := if l.cap.draining && l.settings.captureMode == .hold then s.settleFifo n else s
  let s := match l.status with
    | .on => s.lineOff n .stopped .endedByStop
    | .configBad => (resettled.modLine n fun l => { l with status := .off, refusal := .none }).mark n
    | .off => resettled
  if s.port.flag then s.discardFifo n else s

/-- RUN written 0 while RUNNING: the stop sequence begins (R191). -/
def State.beginStop (s : State) : State :=
  let s := { s with
    ctl := { s.ctl with part := .stopping, windUp := false }
    scan := { s.scan with timer := none, pending := false, position := none } }
  let s := s.staleScan.forLines fun n t => t.stopLine n
  let s := s.makeStale fun j => j.client == .loader
  (s.endLoad .cancelled).markHeader

/-- RUN written 0 (R186, R187, R191). -/
def State.runZero (s : State) : State :=
  match s.ctl.part with
  | .starting => { s.staleScan with ctl := { s.ctl with part := .halted } }
  | .running => s.beginStop
  | _ => s

/-- A CONTROL write with SOFT_RESET 0, decoded as one event (R186). -/
def State.controlWrite (s : State) (run intEnable sweepNow : Bool) : State :=
  let s := { s with ctl := { s.ctl with intEnable := intEnable } }
  let s := if run then s.runOne else s.runZero
  if sweepNow = true ∧ s.ctl.part = .running then s.askSweep else s

/-- SOFT_RESET (R186, R193): the Lock Set stays (R139). -/
def execSoftReset (_others : Word) (s : State) : Host.Outcome State Fault Refusal :=
  if s.answers then .next (s.resetTo s.lockSet false) else .next s

def execRunWritten1 (intEnable sweepNow : Bool) (s : State) : Host.Outcome State Fault Refusal :=
  if s.answers then (s.controlWrite true intEnable sweepNow).finish else .next s

def execRunWritten0 (intEnable sweepNow : Bool) (s : State) : Host.Outcome State Fault Refusal :=
  if s.answers then (s.controlWrite false intEnable sweepNow).finish else .next s

def execSweepNow (run intEnable : Bool) (s : State) : Host.Outcome State Fault Refusal :=
  if s.answers then (s.controlWrite run intEnable true).finish else .next s

def execIntEnable (value run sweepNow : Bool) (s : State) : Host.Outcome State Fault Refusal :=
  if s.answers then (s.controlWrite run value sweepNow).finish else .next s

/-! ## The other registers -/

/-- STATION_BASE_WRITE (R185). -/
def execStationBaseWrite (addr : Word) (s : State) : Host.Outcome State Fault Refusal :=
  if s.answers = true ∧ s.ctl.part = .halted then
    .next { s with ctl := { s.ctl with base := addr &&& 0xFFFFFF00 } }
  else .next s

/-- NOTICE_READ (R189): the whole notice is removed whatever part of the word is read (R194). -/
def execNoticeRead (lane : Lane) (s : State) : Host.Outcome State Fault Refusal :=
  if s.answers then
    let (w, u) := s.notices.take
    .next { s with notices := { u with lastRead := laneOf lane w } }
  else .next s

/-- The clearing of a set fault flag (R182): Sweep Pending is set and stays so in this event, in either order with an
expiry of the sweep timer; SWEEP_START then starts the sweep (log 9). -/
def State.clearFault (s : State) : State :=
  { s with
    port := { s.port with flag := false }
    scan := { s.scan with pending := s.scan.pending || s.ctl.part == .running }
    reports := { s.reports with
      headerDirty := true
      dirty := Vector.ofFn fun n => s.reports.dirty.get n || decide (n.val < s.linesInUse) } }

/-- FAULT_STATE_WRITE (R182): only bit 0 matters, and only while the flag is set. -/
def execFaultStateWrite (value : Word) (s : State) : Host.Outcome State Fault Refusal :=
  if s.answers = true ∧ value.getLsbD 0 = true ∧ s.port.flag = true then s.clearFault.finish else .next s

/-- REGISTER_WRITE_IGNORED (R184, R194). -/
def execRegisterWriteIgnored (_offset : Nat) (_width : Width) (_value : Word) (s : State) :
    Host.Outcome State Fault Refusal := .next s

/-! ## The Time Base (R159, R160) -/

/-- The reference ticks from the advance before to the advance at this place of the cycle. -/
def cycleTicks (cycle : Nat) : Nat := if cycle = 4 then 29492 else 29491

def Clock.advance (c : Clock) : Clock :=
  ⟨c.ms + 1, (c.cycle + 1) % 5, c.ticks + cycleTicks c.cycle⟩

def Tx.tick : Tx → Tx
  | .gap t => .gap (timerTick t)
  | .brk b t => .brk b (timerTick t)
  | t => t

/-- The runner's timers count only in ACTING and WAITING (R125). An expiry that has fallen before a PAUSE and was not
taken keeps its remaining time of nothing, and is due again at the RESUME (log 34). -/
def Runner.tick (r : Runner) : Runner :=
  if r.state = .acting ∨ r.state = .waiting then
    { r with stepTimer := timerTick r.stepTimer, waitTimer := timerTick r.waitTimer }
  else r

/-- Every millisecond timer of a line counts one advance. -/
def Line.tick (l : Line) : Line :=
  { l with
    tx := l.tx.tick
    holdTimer := timerTick l.holdTimer
    absentTimer := timerTick l.absentTimer
    markTimer := timerTick l.markTimer
    det := { l.det with limit := timerTick l.det.limit }
    run := l.run.tick
    out := { l.out with timer := timerTick l.out.timer } }

def State.advance (s : State) : State :=
  { s with
    clock := s.clock.advance
    lines := s.lines.map Line.tick
    scan := { s.scan with timer := timerTick s.scan.timer } }

/-- TIME_BASE_ADVANCE (R159, R160): none while RESETN is low (R193). -/
def execTimeBaseAdvance (s : State) : Host.Outcome State Fault Refusal :=
  if s.answers then .next s.advance else .next s

/-! ## The stop's wind-up (R192) -/

/-- All that R192 asks of the wind-up. -/
def State.woundUp (s : State) : Bool :=
  s.ctl.part == .stopping && !s.ctl.windUp
    && (List.finRange 32).all (fun n => (s.line n).cap.fifo.isEmpty && !(s.line n).tx.isSending)
    && s.port.inFlight.isNone
    && (s.port.flag
        || (!s.reports.headerDirty && (List.finRange 32).all (fun n => !s.recordDirty (.line n))))

/-- STOP_WIND_UP_COMPLETE (R192): STOPPED is held with the header, which shows HALTED; with the flag set the part is
HALTED at once. -/
def execStopWindUpComplete (s : State) : Host.Outcome State Fault Refusal :=
  if s.woundUp then
    let s := s.raiseStation .stopped
    let ctl := if s.port.flag then { s.ctl with part := .halted } else { s.ctl with windUp := true }
    ({ s with ctl := ctl }).finish
  else .next s

end Sys2Proof.Machine
end

