-- ==== Sys2Proof/Machine/Console.lean ====
section
/-! DEFINITION. The meanings of the console line rows: edges, receiver, condition, measurement, transmitter, breaks,
pulses. -/

namespace Sys2Proof.Machine

/-! ## Edges of RXD (R10, R22, R23, R30) -/

/-- RXD_FALL: an edge the measurement sees, a start edge or an edge within a frame, and the beginning of a low run. A
line that is not ON only keeps the level. -/
def execRxdFall (n : LineNo) (ticks : Nat) (s : State) : Host.Outcome State Fault Refusal :=
  let l := s.line n
  if !l.rxd then .next s
  else if l.status ≠ .on then .next (s.modLine n fun l => { l with rxd := false })
  else ((s.measureEdge n ticks true).modLine n fun l => l.fall ticks).finish

/-- RXD_RISE: an edge the measurement sees, and the end of a low run, judged for a break with the settings and P in
force as it ends (R23). -/
def execRxdRise (n : LineNo) (ticks : Nat) (s : State) : Host.Outcome State Fault Refusal :=
  let l := s.line n
  if l.rxd then .next s
  else if l.status ≠ .on then .next (s.modLine n fun l => { l with rxd := true })
  else
    let s := s.measureEdge n ticks false
    let broke := (s.line n).wasBreak ticks
    let s := s.modLine n fun l => l.rise ticks
    (if broke then s.breakSeen n else s).finish

/-! ## The receiver (R10 to R13) -/

/-- START_CHECK (R10): a low start check lets the frame proceed; a high one was a glitch. -/
def execStartCheck (p : SamplePoint) (s : State) : Host.Outcome State Fault Refusal :=
  let n := p.line
  let l := s.line n
  match l.frame with
  | some f =>
    if l.status = .on ∧ f.checked = false then
      let samples := f.samplesNow 0 l.rxd p.rises
      if samples.getD 0 true then .next (s.modLine n fun l => { l with frame := none })
      else .next (s.modLine n fun l => { l with frame := some { f with checked := true, samples := samples } })
    else .next s
  | none => .next s

/-- CHARACTER_DELIVERED (R12, R13): the stop sample of a frame that passed its start check. A rise on the stop sample's
own tick may be taken after it (R52): the sample is high all the same. -/
def execCharacterDelivered (p : SamplePoint) (s : State) : Host.Outcome State Fault Refusal :=
  let n := p.line
  let l := s.line n
  match l.frame with
  | some f =>
    if l.status = .on ∧ f.checked = true then
      let done := s.modLine n fun l => { l with frame := none }
      match f.judge (f.samplesNow (f.sampleCount - 1) l.rxd p.rises) with
      | .withheld => .next (done.modLine n fun l => { l with runWithheld := l.runWithheld || f.unbroken })
      | .errored c => (done.deliver n c true f.counted).finish
      | .good c => (done.deliver n c false f.counted).finish
    else .next s
  | none => .next s

/-! ## The condition monitor (R22) -/

/-- ABSENT_TIME_EXPIRY (R22). -/
def execAbsentTimeExpiry (n : LineNo) (s : State) : Host.Outcome State Fault Refusal :=
  let l := s.line n
  if l.status = .on ∧ l.condition = .marking ∧ l.rxd = false ∧ timerDue l.absentTimer = true then
    (s.changeCondition n .spacing).finish
  else .next s

/-- MARKING_TIMER_EXPIRY (R22). -/
def execMarkingTimerExpiry (n : LineNo) (s : State) : Host.Outcome State Fault Refusal :=
  let l := s.line n
  if l.status = .on ∧ l.condition = .spacing ∧ l.rxd = true ∧ timerDue l.markTimer = true then
    (s.changeCondition n .marking).finish
  else .next s

/-! ## The Rate Finder's own events (R31, R32, R39) -/

/-- RUN_JUDGED (R31, R32). -/
def execRunJudged (n : LineNo) (s : State) : Host.Outcome State Fault Refusal :=
  let d := (s.line n).det
  if d.state = .measuring ∧ d.meas.edge = true then (s.judgeEdge n).finish else .next s

/-- DETECT_LIMIT_EXPIRY (R39). -/
def execDetectLimitExpiry (n : LineNo) (s : State) : Host.Outcome State Fault Refusal :=
  let d := (s.line n).det
  if d.inProgress = true ∧ timerDue d.limit = true then
    (s.concludeDetection n (if d.state = .verifying then .settledUnverified else .failed)).finish
  else .next s

/-! ## The transmitter (R16, R18, R20, R21) -/

/-- The byte that the runner's SEND in progress has ready (R108). -/
def State.sendByte (s : State) (n : LineNo) : Option Byte :=
  let r := (s.line n).run
  let st := s.step n
  if r.state = .acting ∧ r.begun = true ∧ s.action n = some .send ∧ r.textOffset < st.textLength.toNat then
    st.text[r.textOffset]?
  else none

/-- CHARACTER_START (R15, R16). -/
def execCharacterStart (n : LineNo) (s : State) : Host.Outcome State Fault Refusal :=
  let l := s.line n
  if l.status = .on ∧ l.tx = .idle ∧ l.flowHeld = false then
    match l.readyByte (s.sendByte n) with
    | some (b, src) => (s.modLine n fun l => l.startChar b src).finish
    | none => .next s
  else .next s

/-- The character end as its source counts it (R108, R150): Sent and the staging, or the SEND's progress. -/
def Line.countChar (l : Line) : TxSource → Line
  | .operator => { l with sent := l.sent + 1, staging := l.staging.tail }
  | .script => { l with run := { l.run with textOffset := l.run.textOffset + 1 } }
  | .nobody => l

/-- The SEND of a runner has had the character end of its last byte: it completes (R108). -/
def State.sendEnded (s : State) (n : LineNo) : State :=
  if (s.line n).run.textOffset = (s.step n).textLength.toNat then s.actionEnded n .send none else s

/-- CHARACTER_END (R16): the transmitter moves on, the source counts the character, Owner In Force catches up with
Owner (R142), a QUEUED runner may start (R105), and a SEND may complete (R108). -/
def execCharacterEnd (n : LineNo) (s : State) : Host.Outcome State Fault Refusal :=
  let l := s.line n
  match l.tx with
  | .sending c =>
    let l' := ((l.afterChar c).countChar c.source).enforce l.owner
    let s := (s.modLine n fun _ => l').markIf n (c.source != .nobody || l.ownerInForce != l.owner)
    let s := s.startIfQueued n
    (if c.source = .script then s.sendEnded n else s).finish
  | _ => .next s

/-- GAP_EXPIRY (R16). -/
def execGapExpiry (n : LineNo) (s : State) : Host.Outcome State Fault Refusal :=
  match (s.line n).tx with
  | .gap t => if timerDue t then (s.modLine n fun l => { l with tx := .idle }).finish else .next s
  | _ => .next s

/-- HOLD_LIMIT_EXPIRY (R17, R18). -/
def execHoldLimitExpiry (n : LineNo) (s : State) : Host.Outcome State Fault Refusal :=
  let l := s.line n
  if l.flowHeld = true ∧ timerDue l.holdTimer = true then ((s.modLine n Line.clearHold).mark n).finish else .next s

/-- BREAK_TIMER_EXPIRY (R20): the break end goes to whoever ordered the break. -/
def execBreakTimerExpiry (n : LineNo) (s : State) : Host.Outcome State Fault Refusal :=
  match (s.line n).tx with
  | .brk b t =>
    if timerDue t then
      let s := s.modLine n Line.afterBreak
      (if b.byStep then s.actionEnded n .brk none else s).finish
    else .next s
  | _ => .next s

/-- PULSE_TIMER_EXPIRY (R135). -/
def execPulseTimerExpiry (n : LineNo) (s : State) : Host.Outcome State Fault Refusal :=
  let o := (s.line n).out
  if o.state = .pulsing ∧ timerDue o.timer = true then
    let s := (s.modLine n fun l => { l with out := l.out.expire s.now }).raise n .outputDone
    (s.actionEnded n .pulse none).finish
  else .next s

end Sys2Proof.Machine
end

