-- ==== Sys2Proof/Machine/Steps.lean ====
section
/-! DEFINITION. The meanings of the step timer and wait rows (R115, R116, R119) and of the twelve action rows (R107 to
R113). A step's action begins in the event that starts the step, by the same operations (State.act); a row of an
action is that beginning on its own, for a step whose action has not begun (log 7). -/

namespace Sys2Proof.Machine

/-! ## Step timers and waits -/

/-- What the cut of an action in progress does (R119): a break of the step ends, a DETECT_RATE's detection is
cancelled; SEND offers nothing more as the step ends, and a pulse runs on. -/
def State.cutAction (s : State) (n : LineNo) : State :=
  if (s.line n).run.state = .acting then
    match s.action n with
    | some .brk => s.modLine n Line.cutStepBreaks
    | some .detectRate => s.cancelDetection n
    | _ => s
  else s

/-- STEP_TIMER_EXPIRY (R119). -/
def execStepTimerExpiry (n : LineNo) (s : State) : Host.Outcome State Fault Refusal :=
  let r := (s.line n).run
  if (r.state = .acting ∨ r.state = .waiting) ∧ timerDue r.stepTimer = true then
    ((s.cutAction n).exitStep n .timeout).finish
  else .next s

/-- The runner is WAITING on a wait of this kind whose Wait Timer has expired. -/
def State.waitExpired (s : State) (n : LineNo) (w : Wait) : Bool :=
  let r := (s.line n).run
  r.state == .waiting && s.wait n == some w && timerDue r.waitTimer

/-- QUIET_EXPIRY (R115). -/
def execQuietExpiry (n : LineNo) (s : State) : Host.Outcome State Fault Refusal :=
  if s.waitExpired n .quiet then (s.exitStep n .success).finish else .next s

/-- ELAPSE_EXPIRY (R116). -/
def execElapseExpiry (n : LineNo) (s : State) : Host.Outcome State Fault Refusal :=
  if s.waitExpired n .elapse then (s.exitStep n .success).finish else .next s

/-! ## Actions -/

/-- The runner is ACTING on a step with this action, which has not begun. -/
def State.actionDue (s : State) (n : LineNo) (a : Action) : Bool :=
  let r := (s.line n).run
  r.state == .acting && !r.begun && s.action n == some a

/-- The action has begun with the result given; what follows of it happens in the same event (R106, R114, R121). -/
def State.actionBegun (n : LineNo) (p : State × Begun) : Host.Outcome State Fault Refusal :=
  (follow n (p.1.afterAct n p.2 true)).finish

/-- The runner as the action begins. -/
def State.setBegun (s : State) (n : LineNo) : State := s.modRun n fun r => { r with begun := true }

def execNoneAction (n : LineNo) (s : State) : Host.Outcome State Fault Refusal :=
  if s.actionDue n .none then State.actionBegun n ((s.setBegun n).actNone n) else .next s

def execSend (n : LineNo) (s : State) : Host.Outcome State Fault Refusal :=
  if s.actionDue n .send then State.actionBegun n ((s.setBegun n).actSend n) else .next s

def execBreakAction (n : LineNo) (s : State) : Host.Outcome State Fault Refusal :=
  if s.actionDue n .brk then State.actionBegun n ((s.setBegun n).actBreak n) else .next s

def execPulseAction (n : LineNo) (s : State) : Host.Outcome State Fault Refusal :=
  if s.actionDue n .pulse then State.actionBegun n ((s.setBegun n).actPulse n) else .next s

def execDriveActiveAction (n : LineNo) (s : State) : Host.Outcome State Fault Refusal :=
  if s.actionDue n .driveActive then State.actionBegun n ((s.setBegun n).actDrive n .active) else .next s

def execDriveRestAction (n : LineNo) (s : State) : Host.Outcome State Fault Refusal :=
  if s.actionDue n .driveRest then State.actionBegun n ((s.setBegun n).actDrive n .rest) else .next s

def execSetRate (n : LineNo) (s : State) : Host.Outcome State Fault Refusal :=
  if s.actionDue n .setRate then State.actionBegun n ((s.setBegun n).actSetRate n) else .next s

def execDetectRate (n : LineNo) (s : State) : Host.Outcome State Fault Refusal :=
  if s.actionDue n .detectRate then State.actionBegun n ((s.setBegun n).actDetect n) else .next s

def execArmTriggerAction (n : LineNo) (s : State) : Host.Outcome State Fault Refusal :=
  if s.actionDue n .armTrigger then State.actionBegun n ((s.setBegun n).actArm n) else .next s

def execSignal (n : LineNo) (s : State) : Host.Outcome State Fault Refusal :=
  if s.actionDue n .signal then State.actionBegun n ((s.setBegun n).actSignal n) else .next s

def execLoadCounter (n : LineNo) (s : State) : Host.Outcome State Fault Refusal :=
  if s.actionDue n .loadCounter then State.actionBegun n ((s.setBegun n).actLoadCounter n) else .next s

def execCountDown (n : LineNo) (s : State) : Host.Outcome State Fault Refusal :=
  if s.actionDue n .countDown then State.actionBegun n ((s.setBegun n).actCountDown n) else .next s

end Sys2Proof.Machine
end

