-- ==== Sys2Proof/Machine/Bus.lean ====
section
/-! DEFINITION. The meanings of the bus rows: HOLDA, the timeouts and errors, and the completions of the Capture
Writer, the Outbound Fetcher, the Report Writer and the Loader (R66, R96, R149, R171, R176, R178). -/

namespace Sys2Proof.Machine

/-- HOLDA_RISE (R176): the grant, while the port is REQUESTING; at any other time only the pin's level. -/
def execHoldaRise (s : State) : Host.Outcome State Fault Refusal :=
  if s.port.holda then .next s
  else
    let port := { s.port with holda := true }
    if s.port.bus = .requesting then ({ s with port := { port with bus := .holding, tenure := 0 } }).finish
    else .next { s with port := port }

/-- HOLDA_FALL (R176): the pin's level alone. -/
def execHoldaFall (s : State) : Host.Outcome State Fault Refusal :=
  .next { s with port := { s.port with holda := false } }

/-- GRANT_TIMEOUT (R176, R179). -/
def execGrantTimeout (s : State) : Host.Outcome State Fault Refusal :=
  if s.port.bus = .requesting then (s.recordFault .grant s.port.grantClient 0).finish else .next s

/-- ACCESS_TIMEOUT (R178, R179). -/
def execAccessTimeout (s : State) : Host.Outcome State Fault Refusal :=
  match s.port.inFlight with
  | some t => (s.recordFault .access (some t.job.client) t.addr).finish
  | none => .next s

/-- BUS_ERROR (R178, R179). -/
def execBusError (s : State) : Host.Outcome State Fault Refusal :=
  match s.port.inFlight with
  | some t => (s.recordFault .error (some t.job.client) t.addr).finish
  | none => .next s

/-- LATE_BUS_ANSWER (R178): ignored. -/
def execLateBusAnswer (s : State) : Host.Outcome State Fault Refusal := .next s

/-- CAPTURE_WRITE_COMPLETE (R66); after the line has gone ON again it changes no count (R79). -/
def execCaptureWriteComplete (s : State) : Host.Outcome State Fault Refusal :=
  match s.port.inFlight with
  | some t =>
    match t.job with
    | .capture n => (if t.stale then s.completed else s.completed.captureWritten n t.length).finish
    | _ => .next s
  | none => .next s

/-- The bytes of a fetch are placed in the staging, or discarded (R149). -/
def State.placeFetch (s : State) (n : LineNo) (bytes : List Byte) : State :=
  let l := s.line n
  if l.status = .on ∧ l.ownerInForce.isOperators = true then
    s.modLine n fun l => { l with staging := bytes.take l.pendingLength }
  else s

/-- OUTBOUND_FETCH_COMPLETE (R149). -/
def execOutboundFetchComplete (bytes : List Byte) (s : State) : Host.Outcome State Fault Refusal :=
  match s.port.inFlight with
  | some t =>
    match t.job with
    | .fetch n =>
      if bytes.length = t.length then
        (if t.stale then s.completed else s.completed.placeFetch n bytes).finish
      else .next s
    | _ => .next s
  | none => .next s

/-- The causes carried by a write that has completed go to the Notice Unit (R171, R188). -/
def State.releaseLine (s : State) (n : LineNo) : State :=
  let t := s.recordLine n s.reports.carried
  { t with reports := { t.reports with carried := 0 } }

/-- The header's write has completed; the final one of a stop makes the part HALTED (R171, R192). -/
def State.releaseStation (s : State) : State :=
  let t := s.recordStation s.reports.carriedStation
  let ctl := if t.ctl.part = .stopping ∧ t.ctl.windUp = true then { t.ctl with part := .halted, windUp := false }
    else t.ctl
  { t with reports := { t.reports with carriedStation := 0 }, ctl := ctl }

/-- REPORT_WRITE_COMPLETE (R171, R192). -/
def execReportWriteComplete (s : State) : Host.Outcome State Fault Refusal :=
  match s.port.inFlight with
  | some t =>
    match t.job with
    | .reportLine n => (s.completed.releaseLine n).finish
    | .reportHeader => s.completed.releaseStation.finish
    | _ => .next s
  | none => .next s

/-- LOAD_READ_COMPLETE (R96); the bytes of a load that has concluded are discarded (R100). -/
def execLoadReadComplete (bytes : List Byte) (s : State) : Host.Outcome State Fault Refusal :=
  match s.port.inFlight with
  | some t =>
    match t.job with
    | .load _ =>
      if bytes.length = t.length then
        match t.stale, s.store.loader with
        | false, some l => (s.completed.loadBytes l bytes).finish
        | _, _ => s.completed.finish
      else .next s
    | _ => .next s
  | none => .next s

end Sys2Proof.Machine
end

