-- ==== Sys2Proof/Machine/Dispatch.lean ====
section
/-! DEFINITION. The dispatch: one arm per command, each a direct call of its meaning. -/

namespace Sys2Proof.Machine

def exec (i : Instr) (s : State) : Host.Outcome State Fault Refusal :=
  match i with
  | .pinReset => Sys2Proof.Machine.execPinReset s
  | .resetnRise => Sys2Proof.Machine.execResetnRise s
  | .softReset others => Sys2Proof.Machine.execSoftReset others s
  | .runWritten1 intEnable sweepNow => Sys2Proof.Machine.execRunWritten1 intEnable sweepNow s
  | .runWritten0 intEnable sweepNow => Sys2Proof.Machine.execRunWritten0 intEnable sweepNow s
  | .sweepNow run intEnable => Sys2Proof.Machine.execSweepNow run intEnable s
  | .intEnable value run sweepNow => Sys2Proof.Machine.execIntEnable value run sweepNow s
  | .stationBaseWrite addr => Sys2Proof.Machine.execStationBaseWrite addr s
  | .noticeRead lane => Sys2Proof.Machine.execNoticeRead lane s
  | .faultStateWrite value => Sys2Proof.Machine.execFaultStateWrite value s
  | .registerWriteIgnored offset width value => Sys2Proof.Machine.execRegisterWriteIgnored offset width value s
  | .timeBaseAdvance => Sys2Proof.Machine.execTimeBaseAdvance s
  | .rxdFall n ticks => Sys2Proof.Machine.execRxdFall n ticks s
  | .rxdRise n ticks => Sys2Proof.Machine.execRxdRise n ticks s
  | .absentTimeExpiry n => Sys2Proof.Machine.execAbsentTimeExpiry n s
  | .markingTimerExpiry n => Sys2Proof.Machine.execMarkingTimerExpiry n s
  | .characterDelivered p => Sys2Proof.Machine.execCharacterDelivered p s
  | .runJudged n => Sys2Proof.Machine.execRunJudged n s
  | .detectLimitExpiry n => Sys2Proof.Machine.execDetectLimitExpiry n s
  | .characterStart n => Sys2Proof.Machine.execCharacterStart n s
  | .characterEnd n => Sys2Proof.Machine.execCharacterEnd n s
  | .gapExpiry n => Sys2Proof.Machine.execGapExpiry n s
  | .holdLimitExpiry n => Sys2Proof.Machine.execHoldLimitExpiry n s
  | .breakTimerExpiry n => Sys2Proof.Machine.execBreakTimerExpiry n s
  | .pulseTimerExpiry n => Sys2Proof.Machine.execPulseTimerExpiry n s
  | .stepTimerExpiry n => Sys2Proof.Machine.execStepTimerExpiry n s
  | .quietExpiry n => Sys2Proof.Machine.execQuietExpiry n s
  | .elapseExpiry n => Sys2Proof.Machine.execElapseExpiry n s
  | .noneAction n => Sys2Proof.Machine.execNoneAction n s
  | .send n => Sys2Proof.Machine.execSend n s
  | .breakAction n => Sys2Proof.Machine.execBreakAction n s
  | .pulseAction n => Sys2Proof.Machine.execPulseAction n s
  | .driveActiveAction n => Sys2Proof.Machine.execDriveActiveAction n s
  | .driveRestAction n => Sys2Proof.Machine.execDriveRestAction n s
  | .setRate n => Sys2Proof.Machine.execSetRate n s
  | .detectRate n => Sys2Proof.Machine.execDetectRate n s
  | .armTriggerAction n => Sys2Proof.Machine.execArmTriggerAction n s
  | .signal n => Sys2Proof.Machine.execSignal n s
  | .loadCounter n => Sys2Proof.Machine.execLoadCounter n s
  | .countDown n => Sys2Proof.Machine.execCountDown n s
  | .sweepTimerExpiry => Sys2Proof.Machine.execSweepTimerExpiry s
  | .sweepStart => Sys2Proof.Machine.execSweepStart s
  | .headerReadComplete bytes => Sys2Proof.Machine.execHeaderReadComplete bytes s
  | .loadRequest tag blockIndex source => Sys2Proof.Machine.execLoadRequest tag blockIndex source s
  | .unloadRequest tag blockIndex => Sys2Proof.Machine.execUnloadRequest tag blockIndex s
  | .unknownStationCode tag code => Sys2Proof.Machine.execUnknownStationCode tag code s
  | .lineRecordReadComplete bytes => Sys2Proof.Machine.execLineRecordReadComplete bytes s
  | .startRequest n tag block entry => Sys2Proof.Machine.execStartRequest n tag block entry s
  | .pauseRequest n tag => Sys2Proof.Machine.execPauseRequest n tag s
  | .resumeRequest n tag => Sys2Proof.Machine.execResumeRequest n tag s
  | .abortRequest n tag => Sys2Proof.Machine.execAbortRequest n tag s
  | .breakRequest n tag length => Sys2Proof.Machine.execBreakRequest n tag length s
  | .pulseRequest n tag width => Sys2Proof.Machine.execPulseRequest n tag width s
  | .driveActiveRequest n tag => Sys2Proof.Machine.execDriveActiveRequest n tag s
  | .driveRestRequest n tag => Sys2Proof.Machine.execDriveRestRequest n tag s
  | .applyRequest n tag host => Sys2Proof.Machine.execApplyRequest n tag host s
  | .detectRequest n tag => Sys2Proof.Machine.execDetectRequest n tag s
  | .armTriggerRequest n tag post pattern => Sys2Proof.Machine.execArmTriggerRequest n tag post pattern s
  | .disarmRequest n tag => Sys2Proof.Machine.execDisarmRequest n tag s
  | .thawRequest n tag => Sys2Proof.Machine.execThawRequest n tag s
  | .unknownCodeRequest n tag code => Sys2Proof.Machine.execUnknownCodeRequest n tag code s
  | .startHeaderReadComplete bytes => Sys2Proof.Machine.execStartHeaderReadComplete bytes s
  | .holdaRise => Sys2Proof.Machine.execHoldaRise s
  | .grantTimeout => Sys2Proof.Machine.execGrantTimeout s
  | .accessTimeout => Sys2Proof.Machine.execAccessTimeout s
  | .busError => Sys2Proof.Machine.execBusError s
  | .lateBusAnswer => Sys2Proof.Machine.execLateBusAnswer s
  | .captureWriteComplete => Sys2Proof.Machine.execCaptureWriteComplete s
  | .outboundFetchComplete bytes => Sys2Proof.Machine.execOutboundFetchComplete bytes s
  | .reportWriteComplete => Sys2Proof.Machine.execReportWriteComplete s
  | .loadReadComplete bytes => Sys2Proof.Machine.execLoadReadComplete bytes s
  | .stopWindUpComplete => Sys2Proof.Machine.execStopWindUpComplete s
  | .startCheck p => Sys2Proof.Machine.execStartCheck p s
  | .holdaFall => Sys2Proof.Machine.execHoldaFall s

end Sys2Proof.Machine
end

