-- ==== Sys2Proof/Safety.lean ====
section
/-! DEFINITION. What the statements speak of: what an event leaves as it was, and the invariants of the part. -/

namespace Sys2Proof.Machine

/-! ## What an event leaves as it was -/

/-- What no line's own event changes. -/
structure Common where
  ctl        : Control
  clock      : Clock
  linesInUse : Nat
  lockSet    : Word
  notices    : Notices
  scan       : Scanner
  pending    : List Instr
  deriving DecidableEq, Repr

def State.common (s : State) : Common :=
  ⟨s.ctl, s.clock, s.linesInUse, s.lockSet, s.notices, s.scan, s.pending⟩

/-- All but the lines, the report bookkeeping and the commands waiting. -/
structure Shared where
  common     : Common
  store      : Store
  port       : Port
  queue      : List LineNo
  slots      : List LineNo
  capturePos : LineNo
  fetchPos   : LineNo
  deriving DecidableEq, Repr

def State.shared (s : State) : Shared :=
  ⟨s.common, s.store, s.port, s.queue, s.slots, s.capturePos, s.fetchPos⟩

/-- Every line but n is as it was. -/
def OnlyLine (n : LineNo) (s t : State) : Prop := ∀ m : LineNo, m ≠ n → t.line m = s.line m

/-- An event of line n alone: the line becomes l, the reports become r, and nothing else changes. -/
def LineBecomes (n : LineNo) (s t : State) (l : Line) (r : Reports) : Prop :=
  t.line n = l ∧ t.reports = r ∧ OnlyLine n s t ∧ t.shared = s.shared

/-- Two lines that differ at most in their detection records. -/
def Line.SameButDetection (l k : Line) : Prop := { k with det := l.det } = l

/-! ## Invariants -/

/-- Station Base is a multiple of 256 (R185). -/
def State.BaseAligned (s : State) : Prop := s.ctl.base &&& 0xFF = 0

/-- A line stays within its bounds: history 24 (R47), FIFO 64 (R62), trail 8 (R123), staging 64 (R146), Dropped
4294967295 (R61, R63). -/
def Line.Bounded (l : Line) : Prop :=
  l.history.length ≤ 24 ∧ l.cap.fifo.length ≤ 64 ∧ l.run.trail.length ≤ 8 ∧ l.staging.length ≤ 64 ∧
  l.cap.dropped ≤ 4294967295

/-- Every line is within its bounds, and a fetch in flight reads at most 64 bytes (R148). -/
def State.Bounded (s : State) : Prop :=
  (∀ n : LineNo, (s.line n).Bounded) ∧
  ∀ (t : Transaction) (n : LineNo), s.port.inFlight = some t → t.job = .fetch n → t.length ≤ 64

/-- What a read in flight that is still to be acted on says of the part state (R163, R167, R187). -/
def Job.FitsPart (j : Job) (p : PartState) : Prop :=
  match j with
  | .startHeader => p = .starting
  | .sweepHeader => p = .running
  | .sweepLine _ => p = .running
  | _ => True

/-- The part is coherent: every line in the Lock Set has its output at REST (R138); a line that is not ON has its
runner IDLE, its output at REST and no detection (R5, R137); outside RUNNING no line is ON and no sweep is in progress
(R167, R187, R191); a Scanner read still to be acted on belongs to the part state. -/
structure State.Coherent (s : State) : Prop where
  locked_rest : ∀ n : LineNo, s.locked n = true → (s.line n).out.state = .rest
  off_idle : ∀ n : LineNo, (s.line n).status ≠ .on →
    (s.line n).run.state = .idle ∧ (s.line n).out.state = .rest ∧ (s.line n).det.state = .none
  still_off : s.ctl.part ≠ .running → ∀ n : LineNo, (s.line n).status ≠ .on
  still_sweep : s.ctl.part ≠ .running → s.scan.position = none
  reads_fit : ∀ t : Transaction, s.port.inFlight = some t → t.stale = false → t.job.FitsPart s.ctl.part

/-- The Rate Finder is coherent (R28, R29): a line is in the Detect Queue exactly while QUEUED and holds a slot exactly
while MEASURING, once at most; at most four slots are held, and no line waits while a slot is free. -/
structure State.FinderCoherent (s : State) : Prop where
  queued : ∀ n : LineNo, n ∈ s.queue ↔ (s.line n).det.state = .queued
  measuring : ∀ n : LineNo, n ∈ s.slots ↔ (s.line n).det.state = .measuring
  queue_once : s.queue.Nodup
  slots_once : s.slots.Nodup
  four_slots : s.slots.length ≤ 4
  served : s.queue = [] ∨ s.slots.length = 4

end Sys2Proof.Machine
end

