-- ==== Sys2Proof/Certificates/Slice0/Obligations.lean ====
section
/-! DEFINITION. The statements for the provers: what the commands of the LC32 do, by family, and the invariants that
every step keeps. -/

section
open Sys2Proof Sys2Proof.Machine

/-! ## The queue, reset and the registers -/

/-- Step runs the command at the front of the queue on the state with the queue's rest. With no command waiting the
block idles: that clause is the model's choice (log entry 2). -/
def Obligations.StepRunsTheFrontCommand : Prop :=
  (∀ (c : Instr) (rest : List Instr) (s : State),
    step { s with pending := c :: rest } = exec c { s with pending := rest }) ∧
  ∀ s : State, s.pending = [] → step s = .next s

/-- The reset values that the spec gives, group by group: the registers and the port, the blocks, and for every line
its settings copy, transmitter, owner, detection record, capture state, runner, output and request slot. -/
def Obligations.ResetState : Prop :=
  let s := State.reset
  (s.ctl.part = .halted ∧ s.ctl.base = 0 ∧ s.ctl.intEnable = false ∧ s.irq = false ∧ s.holdPin = false) ∧
  (s.clock.ms = 0 ∧ s.linesInUse = 0 ∧ s.lockSet = 0 ∧ s.queue = [] ∧ s.slots = [] ∧ s.capturePos = 0 ∧ s.fetchPos = 0) ∧
  (s.scan.interval = 10 ∧ s.scan.timer = none ∧ s.scan.pending = false ∧ s.scan.position = none ∧ s.scan.lastTime = 0 ∧
    s.scan.tag = none ∧ s.scan.result = .none) ∧
  (s.port.bus = .idle ∧ s.port.tenure = 0 ∧ s.port.lastServed = .loader ∧ s.port.inFlight = none ∧
    s.port.flag = false ∧ s.port.faultKind = .none ∧ s.port.faultClient = none ∧ s.port.faultAddr = 0) ∧
  (s.notices.station = 0 ∧ s.notices.lineMask = 0 ∧ s.notices.stationMask = 0 ∧ s.reports.headerDirty = false ∧
    s.reports.heldStation = 0 ∧ s.reports.position = .header ∧ s.store.loader = none ∧ s.store.loadResult = .none) ∧
  (s.reports.carried = 0 ∧ s.reports.carriedStation = 0 ∧ s.store.sum = 0 ∧ s.store.loadBlock = 0 ∧
    s.store.loadIndex = 0 ∧ s.regRead .word 0x04 = some 0 ∧ s.regRead .word 0x08 = some 0 ∧
    s.regRead .word 0x0C = some 0x003F0000 ∧ s.regRead .word 0x10 = some 0 ∧ s.regRead .word 0x14 = some 0) ∧
  (∀ b : BlockNo, (s.block b).state = .empty ∧ (s.block b).stepCount = 0 ∧ (s.block b).patternCount = 0 ∧
    (s.block b).useCount = 0) ∧
  ∀ n : LineNo,
    (s.notices.line.get n = 0 ∧ s.reports.dirty.get n = false ∧ s.reports.held.get n = 0 ∧ s.outDriven n = false) ∧
    ((s.line n).status = .off ∧ (s.line n).refusal = .none ∧ (s.line n).period = 3072 ∧ (s.line n).tx = .idle ∧
      (s.line n).flowHeld = false ∧ (s.line n).condition = .marking ∧ (s.line n).conditionTime = 0 ∧
      (s.line n).breakTime = 0 ∧ (s.line n).garble = 0) ∧
    ((s.line n).owner = .free ∧ (s.line n).ownerInForce = .free ∧ (s.line n).claim = false ∧
      (s.line n).claimSeen = false ∧ (s.line n).staging = [] ∧ (s.line n).sent = 0 ∧ (s.line n).fillSeen = 0) ∧
    ((s.line n).det.state = .none ∧ (s.line n).det.attempts = 0 ∧ (s.line n).det.rejected = 0 ∧
      (s.line n).det.measured = none ∧ (s.line n).det.adoption = .none ∧ (s.line n).det.outcome = .none) ∧
    ((s.line n).history = [] ∧ (s.line n).scriptFresh = 0 ∧ (s.line n).trigFresh = 0) ∧
    ((s.line n).cap.fifo = [] ∧ (s.line n).cap.head = 0 ∧ (s.line n).cap.tail = 0 ∧ (s.line n).cap.taken = 0 ∧
      (s.line n).cap.dropped = 0 ∧ (s.line n).cap.trigger = .off ∧ (s.line n).cap.draining = false) ∧
    ((s.line n).run.state = .idle ∧ (s.line n).run.trail = [] ∧ (s.line n).run.last = none ∧
      (s.line n).run.counter = 0 ∧ (s.line n).out.state = .rest ∧ (s.line n).takenTag = none ∧
      (s.line n).result = .none) ∧
    (s.line n).settings = {
      dataBits := .eight, parity := .none, stopBits := .one, rateMode := .fixed, bitPeriod := 3072, fallback := 3072
      tolerance := 30, rawAllowed := false, detectLimit := 20000, flow := .none, holdLimit := 0, charGap := 0
      lineGap := 0, absentTime := 2000, captureBase := 0, captureSize := 0, captureMode := .hold
      outboundBase := 0, outboundSize := 0 } ∧
    ((s.line n).clamped = false ∧ (s.line n).breaks = [] ∧ (s.line n).holdTimer = none ∧
      (s.line n).frame = none ∧ (s.line n).absentTimer = none ∧ (s.line n).markTimer = none ∧
      ∀ ticks, s.txd n ticks = true) ∧
    ((s.line n).det.counted = 0 ∧ (s.line n).det.least = none ∧ (s.line n).det.verified = 0 ∧
      (s.line n).det.concluded = 0 ∧ (s.line n).det.bound = false ∧ (s.line n).det.limit = none) ∧
    ((s.line n).cap.half = false ∧ (s.line n).cap.lapped = false ∧ (s.line n).cap.pattern = none ∧
      (s.line n).cap.post = 0 ∧ (s.line n).cap.lead = 0 ∧ (s.line n).cap.remaining = 0 ∧
      (s.line n).cap.matchTime = 0) ∧
    ((s.line n).run.block = 0 ∧ (s.line n).run.entry = 0 ∧ (s.line n).run.current = 0 ∧
      (s.line n).run.immediate = 0 ∧ (s.line n).run.textOffset = 0 ∧ (s.line n).run.actionResult = none ∧
      (s.line n).run.stepTimer = none ∧ (s.line n).run.waitTimer = none ∧ (s.line n).run.countLeft = 0 ∧
      (s.line n).run.phase = .a ∧ (s.line n).run.failure = .none ∧ (s.line n).run.signalCode = 0 ∧
      (s.line n).run.signalTime = 0) ∧
    ((s.line n).out.time = 0 ∧ (s.line n).out.width = 0 ∧ (s.line n).out.timer = none ∧
      (s.line n).out.ended = .none)

/-- Both resets set every register and block to its reset value in any state; a pin reset empties the Lock Set and
holds the part in reset, a soft reset keeps the Lock Set and its write's other bits are ignored. That the levels of
RXD and HOLDA stay as they are and that the commands waiting stay is the model's choice (log entry 12). -/
def Obligations.ResetsSetEverything : Prop :=
  ∀ (c : Instr) (s : State), (c = .pinReset ∨ (∃ o, c = .softReset o) ∧ s.ctl.inReset = false) →
    ∃ t : State, exec c s = .next t ∧
      (c = .pinReset → t.lockSet = 0 ∧ t.ctl = { Control.reset with inReset := true }) ∧
      (c ≠ .pinReset → t.lockSet = s.lockSet ∧ t.ctl = Control.reset) ∧
      (∀ n : LineNo, t.line n = { Line.reset with rxd := (s.line n).rxd }) ∧
      t.store = .reset ∧ t.scan = .reset ∧ t.reports = .reset ∧ t.notices = .reset ∧ t.clock = .reset ∧
      t.port = { Port.reset with holda := s.port.holda } ∧ t.linesInUse = 0 ∧ t.queue = [] ∧ t.slots = [] ∧
      t.capturePos = 0 ∧ t.fetchPos = 0 ∧ t.pending = s.pending

/-- RESETN_RISE ends the pin reset and changes nothing else: after a pin reset the part is then HALTED with the Time
Base at 0 and answers the registers. A register access while RESETN is low is not answered and changes nothing: a
write or a read of NOTICE leaves the state, and a read of any register, whole or in part, gives no value. A write that
the register window ignores, and a bus answer that comes after its transaction has faulted, change nothing. -/
def Obligations.ResetHoldsTheRegisters : Prop :=
  ((∀ s : State, s.ctl.inReset = true →
     exec .resetnRise s = .next { s with ctl := { s.ctl with inReset := false } }) ∧
   ∀ s : State, ∃ t u, exec .pinReset s = .next t ∧ exec .resetnRise t = .next u ∧
     u.ctl = Control.reset ∧ u.clock.ms = 0 ∧ u.answers = true) ∧
  (∀ s : State, s.ctl.inReset = true →
     (∀ o, exec (.softReset o) s = .next s) ∧ (∀ a b, exec (.runWritten1 a b) s = .next s) ∧
     (∀ a b, exec (.runWritten0 a b) s = .next s) ∧ (∀ a b, exec (.sweepNow a b) s = .next s) ∧
     (∀ a b c, exec (.intEnable a b c) s = .next s) ∧ (∀ a, exec (.stationBaseWrite a) s = .next s) ∧
     (∀ l, exec (.noticeRead l) s = .next s) ∧ (∀ v, exec (.faultStateWrite v) s = .next s) ∧
     exec .timeBaseAdvance s = .next s ∧ ∀ lane k, s.regRead lane k = none) ∧
  (∀ s : State, (∀ o w v, exec (.registerWriteIgnored o w v) s = .next s) ∧ exec .lateBusAnswer s = .next s)

/-- RUN written 1 to a HALTED part: refused while Station Base is 0 or the fault flag is set, else STARTING, and an
idle Memory Port raises HOLD for the header read. In the other part states it has no effect. INT_ENABLE takes the
written value in every case. RUN written 0: no effect while HALTED or STOPPING; while STARTING the start is given up,
nothing is latched, and a read in flight will be discarded. A write of the register window is the row it stands for.
At offset 0x08 it is CONTROL, with RUN in bit 0, INT_ENABLE in bit 1, SWEEP_NOW in bit 2 and SOFT_RESET in bit 3; the
other bits, Part State among them, have no effect. With SOFT_RESET 1 it is a soft reset; else the rows of RUN and
INT_ENABLE, and that of SWEEP_NOW where its bit is 1, are this one write (log entry 27). At offset 0x04 it is
STATION_BASE, at 0x10 FAULT_STATE; any other write, and one narrower than a word, changes nothing. -/
def Obligations.RunBit : Prop :=
  (∀ (ie sn : Bool) (s : State), s.ctl.inReset = false →
     let w := { s with ctl := { s.ctl with intEnable := ie } }
     (s.ctl.part = .halted → (s.ctl.base = 0 ∨ s.port.flag = true) →
       exec (.runWritten1 ie sn) s = .next w.settlePort) ∧
     (s.ctl.part = .halted → s.ctl.base ≠ 0 → s.port.flag = false →
       ∃ t : State, exec (.runWritten1 ie sn) s = .next t ∧
         t.ctl = { s.ctl with intEnable := ie, part := .starting, windUp := false } ∧
         t.lines = s.lines ∧ t.scan = s.scan ∧ t.notices = s.notices ∧ t.lockSet = s.lockSet ∧
         (s.port.bus = .idle → t.holdPin = true)) ∧
     ((s.ctl.part = .starting ∨ s.ctl.part = .stopping) →
       exec (.runWritten1 ie sn) s = .next w.settlePort) ∧
     (s.ctl.part = .running → sn = false → exec (.runWritten1 ie sn) s = .next w.settlePort)) ∧
  (∀ (ie sn : Bool) (s : State), s.ctl.inReset = false →
     ((s.ctl.part = .halted ∨ s.ctl.part = .stopping) →
       exec (.runWritten0 ie sn) s = .next ({ s with ctl := { s.ctl with intEnable := ie } } : State).settlePort) ∧
     (s.ctl.part = .starting →
       ∃ u : State, exec (.runWritten0 ie sn) s = .next u.settlePort ∧
         u.ctl = { s.ctl with intEnable := ie, part := .halted } ∧ u.lines = s.lines ∧ u.linesInUse = s.linesInUse ∧
         u.lockSet = s.lockSet ∧ u.scan = s.scan ∧ u.notices = s.notices ∧ u.reports = s.reports ∧ u.store = s.store ∧
         ∀ t, u.port.inFlight = some t → t.job.client = .scanner → t.stale = true)) ∧
  (∀ (offset : Nat) (v : Word) (s : State),
     let written (x : Word) : Host.Outcome State Fault Refusal := exec (registerWrite 0x08 .word x) s
     let run := v.getLsbD 0
     let intEnable := v.getLsbD 1
     let sweepNow := v.getLsbD 2
     (v.getLsbD 3 = true → ∀ others, written v = exec (.softReset others) s) ∧
     (v.getLsbD 3 = false →
       (run = true → written v = exec (.runWritten1 intEnable sweepNow) s) ∧
       (run = false → written v = exec (.runWritten0 intEnable sweepNow) s) ∧
       written v = exec (.intEnable intEnable run sweepNow) s ∧
       (sweepNow = true → written v = exec (.sweepNow run intEnable) s)) ∧
     (∀ x : Word, x &&& 0xF = v &&& 0xF → written x = written v) ∧
     exec (registerWrite 0x04 .word v) s = exec (.stationBaseWrite v) s ∧
     exec (registerWrite 0x10 .word v) s = exec (.faultStateWrite v) s ∧
     (offset ≠ 0x04 → offset ≠ 0x08 → offset ≠ 0x10 → exec (registerWrite offset .word v) s = .next s) ∧
     exec (registerWrite offset .half v) s = .next s ∧ exec (registerWrite offset .byte v) s = .next s)

/-- RUN written 0 while RUNNING begins the stop sequence. A line that was ON is OFF: its run has ended STOPPED, its
detection is cancelled, its output is at REST, its trigger OFF, its owner FREE and its staging empty. A line that was
CONFIG_BAD is OFF with Refusal NONE. Each FIFO of a line that was ON, or drains in HOLD, is settled as at line off
(log entry 15), the rest Dropped with DATA_DROPPED; with the fault flag set nothing is kept. The sweep is over, a load
has concluded CANCELLED, reads of the Scanner and the Loader and an ON line's fetch in flight will be discarded, and
the header is dirty. Dropped is said for a line whose Dropped is at most 4294967295 (StepKeepsBounds). That its
detection is over is said for a coherent Rate Finder (StepKeepsFinderCoherent). Station Base, INT_ENABLE as written,
the Lock Set, the Time Base and the notices stay. That Post Count stays as the trigger goes OFF is the model's choice
(log entry 41). -/
def Obligations.StopBegins : Prop :=
  ∀ (ie sn : Bool) (s : State), s.ctl.inReset = false → s.ctl.part = .running →
    let discarded (t : Transaction) : Prop := t.job.client = .scanner ∨ t.job.client = .loader ∨
      ∃ n, t.job = .fetch n ∧ (s.line n).status = .on
    ∃ u : State, exec (.runWritten0 ie sn) s = .next u.settlePort ∧
      (u.ctl = { s.ctl with intEnable := ie, part := .stopping, windUp := false } ∧
        u.scan = { s.scan with timer := none, pending := false, position := none } ∧
        u.reports.headerDirty = true ∧ u.lockSet = s.lockSet ∧ u.clock = s.clock ∧ u.notices = s.notices ∧
        u.linesInUse = s.linesInUse ∧ u.store.loader = none) ∧
      (∀ l, s.store.loader = some l → (u.block l.block).state = .empty ∧ (u.block l.block).steps = [] ∧
        u.store.loadResult = .cancelled ∧ u.store.loadBlock = l.block.val ∧ u.store.loadIndex = 0 ∧
        u.reports.heldStation = s.reports.heldStation ||| 0x2) ∧
      (s.store.loader = none → u.reports.heldStation = s.reports.heldStation) ∧
      (u.port = { s.port with inFlight := u.port.inFlight } ∧ (s.port.inFlight = none → u.port.inFlight = none) ∧
        ∀ t, s.port.inFlight = some t →
          (discarded t → u.port.inFlight = some { t with stale := true }) ∧
          (¬ discarded t → u.port.inFlight = some t)) ∧
      ∀ n,
        let l := s.line n
        let k := u.line n
        let c := l.cap
        let on := l.status = .on
        let hold := l.settings.captureMode = .hold
        let carried := match s.port.inFlight with
          | some t => if t.job = .capture n ∧ t.stale = false then t.length else 0
          | none => 0
        let admitted := if hold ∧ (on ∨ c.draining = true)
          then c.fifo.take (max (l.settings.captureSize - dist c.taken c.head) carried) else c.fifo
        let kept := if s.port.flag then [] else admitted
        let lost := c.fifo.length - kept.length
        k.status = .off ∧ (l.status = .configBad → k.refusal = .none ∧ u.reports.dirty.get n = true) ∧
          k.settings = l.settings ∧ k.period = l.period ∧ k.sent = l.sent ∧
          k.cap.fifo = kept ∧ (c.dropped ≤ 4294967295 → k.cap.dropped = min 4294967295 (c.dropped + lost)) ∧
          k.cap.head = c.head ∧ k.cap.taken = c.taken ∧
          (0 < lost → (u.reports.held.get n).getLsbD 9 = true ∧ k.cap.draining = !kept.isEmpty) ∧
          (on → k.cap = { c with
              trigger := .off, pattern := none, lead := 0, remaining := 0
              tail := (if hold then c.taken else c.tail), fifo := kept
              dropped := min 4294967295 (c.dropped + lost), draining := !kept.isEmpty } ∧
            k.run.state = .idle ∧ (l.run.state = .idle → k.run = l.run) ∧
            (l.run.state ≠ .idle → k.run.last = some ⟨.stopped, 0,
                if l.run.state = .queued then l.run.entry else l.run.current, .endedByStop, s.clock.ms⟩ ∧
              (u.reports.held.get n).getLsbD 0 = true) ∧
            (s.FinderCoherent → k.det.state = .none ∧ n ∉ u.queue ∧ n ∉ u.slots ∧
              (l.det.state ≠ .none → k.det.outcome = .cancelled)) ∧
            k.out.state = .rest ∧ k.owner = .free ∧ k.staging = [] ∧ k.flowHeld = false ∧ k.frame = none ∧
            k.breaks = [] ∧ (l.tx.isSending = false → k.tx = .idle) ∧ k.refusal = .none ∧
            u.reports.dirty.get n = true) ∧
          (¬ on → k.run = l.run ∧ k.out = l.out ∧ k.tx = l.tx ∧ k.owner = l.owner)

/-- SWEEP_NOW written 1 (with RUN 1, which keeps the part running): while RUNNING a sweep starts at once if none is
pending or in progress and the fault flag is clear, else Sweep Pending is set, which it may be already; in any other
part state it sets nothing. The sweep timer's expiry reloads it with the Sweep Interval In Force, and a sweep starts
at once or is pending; a pending sweep starts once none is in progress, the part is RUNNING and the fault flag is
clear. That the reload counts from the event that takes the expiry is log entry 22; that the start of a pending sweep
is a command of its own is log entry 9. -/
def Obligations.SweepStarts : Prop :=
  (∀ (ie : Bool) (s : State), s.ctl.inReset = false →
     let w := { s with ctl := { s.ctl with intEnable := ie } }
     (s.ctl.part = .running → s.scan.pending = false → s.scan.position = none → s.port.flag = false →
       exec (.sweepNow true ie) s =
         .next ({ w with scan := { s.scan with pending := false, position := some .header } } : State).settlePort) ∧
     (s.ctl.part = .running → (s.scan.pending = true ∨ s.scan.position ≠ none ∨ s.port.flag = true) →
       exec (.sweepNow true ie) s = .next ({ w with scan := { s.scan with pending := true } } : State).settlePort) ∧
     (s.ctl.part ≠ .running → ∃ u : State, exec (.sweepNow true ie) s = .next u.settlePort ∧ u.scan = s.scan)) ∧
  (∀ s : State, s.ctl.part = .running →
     let started (sc : Scanner) : State := { s with scan := { sc with pending := false, position := some .header } }
     let reloaded : Scanner := { s.scan with timer := timerStart s.scan.interval }
     (timerDue s.scan.timer = true → s.scan.pending = false → s.scan.position = none → s.port.flag = false →
       exec .sweepTimerExpiry s = .next (started reloaded).settlePort) ∧
     (timerDue s.scan.timer = true → (s.scan.pending = true ∨ s.scan.position ≠ none ∨ s.port.flag = true) →
       exec .sweepTimerExpiry s =
         .next ({ s with scan := { reloaded with pending := true } } : State).settlePort) ∧
     (s.scan.pending = true → s.scan.position = none → s.port.flag = false →
       exec .sweepStart s = .next (started s.scan).settlePort))

/-- IRQ is a level: asserted exactly while INT_ENABLE is 1 and a pending set is not empty. INT_ENABLE takes the
written value in the write's event. Only NOTICE reads and the two resets take a cause out of a pending set; the resets
empty them all. -/
def Obligations.InterruptFollows : Prop :=
  (∀ s : State, s.irq = true ↔
    s.ctl.intEnable = true ∧ ((∃ n : LineNo, s.notices.line.get n ≠ 0) ∨ s.notices.station ≠ 0)) ∧
  (∀ (v run sn : Bool) (s : State), s.ctl.inReset = false →
    ∃ t : State, exec (.intEnable v run sn) s = .next t ∧ t.ctl.intEnable = v) ∧
  (∀ (c : Instr) (s t : State), exec c s = .next t →
    c ≠ .pinReset → (∀ o, c ≠ .softReset o) → (∀ l, c ≠ .noticeRead l) →
    (∀ n : LineNo, s.notices.line.get n &&& t.notices.line.get n = s.notices.line.get n) ∧
    s.notices.station &&& t.notices.station = s.notices.station) ∧
  ∀ (c : Instr) (s : State), (c = .pinReset ∨ (∃ o, c = .softReset o) ∧ s.ctl.inReset = false) →
    ∃ t : State, exec c s = .next t ∧ t.irq = false ∧ t.notices.station = 0 ∧ ∀ n : LineNo, t.notices.line.get n = 0

/-- STATION_BASE: taken only while HALTED, with its low eight bits made 0; the value read back is the value in force;
a Station Base of 0 refuses a start; every Station Area address counts from it. -/
def Obligations.StationBase : Prop :=
  (∀ (a : Word) (s : State), s.ctl.inReset = false → s.ctl.part = .halted →
    ∃ t : State, exec (.stationBaseWrite a) s = .next t ∧ t = { s with ctl := { s.ctl with base := a &&& 0xFFFFFF00 } } ∧
      t.ctl.base &&& 0xFF = 0) ∧
  (∀ (a : Word) (s : State), s.ctl.part ≠ .halted → exec (.stationBaseWrite a) s = .next s) ∧
  (∀ s : State, s.ctl.inReset = false → s.regRead .word 0x04 = some s.ctl.base) ∧
  (∀ (ie sn : Bool) (s : State), s.ctl.inReset = false → s.ctl.part = .halted → s.ctl.base = 0 →
    ∃ t : State, exec (.runWritten1 ie sn) s = .next t ∧ t.ctl.part = .halted) ∧
  ∀ s : State, (s.form .startHeader).addr = s.ctl.base ∧ (s.form .sweepHeader).addr = s.ctl.base ∧
    (s.form .reportHeader).addr = s.ctl.base + 128 ∧
    ∀ n : LineNo, (s.form (.sweepLine n)).addr = s.ctl.base + 256 + BitVec.ofNat 32 (256 * n.val) ∧
      (s.form (.reportLine n)).addr = s.ctl.base + 384 + BitVec.ofNat 32 (256 * n.val)

/-- A NOTICE read returns the lowest-numbered source whose pending set is not empty, lines before the station, with
the whole of its set, and empties that set alone; with nothing pending it returns Source 63 and changes nothing. The
Cause Set stands in bits 0 to 11 and the Source in bits 16 to 21. A cause that its mask admits and that arrives before
the read is returned or stays pending; one that arrives after it stays pending. A read of a half-word or a byte
returns those bits of the word and removes the notice all the same (R194). The field lastRead, where the value
returned is kept, is the model's (log entry 13). -/
def Obligations.NoticeRead : Prop :=
  let word (source causes : Nat) : Word := BitVec.ofNat 32 (causes + 2 ^ 16 * source)
  (∀ s : State, s.ctl.inReset = false →
    (∀ n : LineNo, s.notices.line.get n ≠ 0 → (∀ m : LineNo, m < n → s.notices.line.get m = 0) →
      ∃ t : State, exec (.noticeRead .word) s = .next t ∧
        t.notices.lastRead = word n.val (s.notices.line.get n).toNat ∧
        t.notices.line.get n = 0 ∧ (∀ m : LineNo, m ≠ n → t.notices.line.get m = s.notices.line.get m) ∧
        t.notices.station = s.notices.station ∧ t = { s with notices := t.notices }) ∧
    ((∀ m : LineNo, s.notices.line.get m = 0) → s.notices.station ≠ 0 →
      exec (.noticeRead .word) s =
        .next { s with notices := { s.notices with
          station := 0, lastRead := word 32 s.notices.station.toNat } }) ∧
    ((∀ m : LineNo, s.notices.line.get m = 0) → s.notices.station = 0 →
      exec (.noticeRead .word) s = .next { s with notices := { s.notices with lastRead := word 63 0 } })) ∧
  (∀ (lane : Lane) (s : State), s.ctl.inReset = false →
    ∃ t u, exec (.noticeRead lane) s = .next t ∧ exec (.noticeRead .word) s = .next u ∧
      s.regRead lane 0x0C = some t.notices.lastRead ∧ t.notices.line = u.notices.line ∧ t.notices.station = u.notices.station ∧
      (let w := u.notices.lastRead.toNat
       t.notices.lastRead.toNat = match lane with
         | .word => w
         | .half upper => if upper then w / 2 ^ 16 else w % 2 ^ 16
         | .byte k => w / 2 ^ (8 * k.val) % 2 ^ 8)) ∧
  ∀ (n : LineNo) (cs : BitVec 12) (s : State),
    (s.recordLine n cs).notices.line.get n = s.notices.line.get n ||| (cs &&& s.notices.lineMask)

/-- A write of FAULT_STATE with 1 in the flag position and the flag set: the flag clears and the fault record stays,
while RUNNING Sweep Pending is set, every line in use and the header are dirty, and an idle port raises HOLD if a
client asks. Any other write changes nothing. Taken in one order or the other beside an expiry of the sweep timer, it
leaves Sweep Pending set once and no sweep begun. That the sweep now pending starts in the event SWEEP_START, after
the write's own, is log entry 9. -/
def Obligations.FaultStateWrite : Prop :=
  (∀ (v : Word) (s : State), s.ctl.inReset = false →
    ((v.getLsbD 0 = false ∨ s.port.flag = false) → exec (.faultStateWrite v) s = .next s) ∧
    (v.getLsbD 0 = true → s.port.flag = true →
      ∃ u : State, exec (.faultStateWrite v) s = .next u.settlePort ∧
        u.port = { s.port with flag := false } ∧ u.lines = s.lines ∧ u.ctl = s.ctl ∧ u.notices = s.notices ∧
        (s.ctl.part = .running → u.scan = { s.scan with pending := true }) ∧
        (s.ctl.part ≠ .running → u.scan = s.scan) ∧
        u.reports.headerDirty = true ∧ u.reports.held = s.reports.held ∧
        ∀ n : LineNo, u.reports.dirty.get n = (s.reports.dirty.get n || decide (n.val < s.linesInUse)))) ∧
  ∀ (v : Word) (s : State), s.ctl.inReset = false → v.getLsbD 0 = true → s.port.flag = true →
    s.ctl.part = .running → s.scan.position = none → timerDue s.scan.timer = true →
    ∃ t u : State, exec (.faultStateWrite v) s = .next t ∧ exec .sweepTimerExpiry t = .next u ∧
    ∃ t' u' : State, exec .sweepTimerExpiry s = .next t' ∧ exec (.faultStateWrite v) t' = .next u' ∧
      u.scan = { s.scan with pending := true, timer := timerStart s.scan.interval } ∧ u'.scan = u.scan

/-! ## Time -/

/-- A Time Base advance adds one to the Time Base modulo 2^32, and every running millisecond timer counts it: the
sweep timer and each line's timers, but for the step and wait timers of a runner that is neither ACTING nor WAITING.
Nothing else changes. A timer of T ms is due from the (T+1)-th advance after its start and not before, and five
advances of the cycle take 147456 reference ticks, the fifth 29492. That a due timer stays due until it is taken is
the model's (log 6). -/
def Obligations.TimeBaseAdvance : Prop :=
  (∀ s : State, s.ctl.inReset = false →
     ∃ t : State, exec .timeBaseAdvance s = .next t ∧ t.clock.ms = s.clock.ms + 1 ∧
       t = { s with clock := t.clock, lines := t.lines, scan := { s.scan with timer := timerTick s.scan.timer } } ∧
       ∀ n : LineNo,
         let l := s.line n
         t.line n = { l with
           tx := (match l.tx with
             | .gap k => .gap (timerTick k)
             | .brk b k => .brk b (timerTick k)
             | x => x)
           holdTimer := timerTick l.holdTimer
           absentTimer := timerTick l.absentTimer
           markTimer := timerTick l.markTimer
           det := { l.det with limit := timerTick l.det.limit }
           run := (if l.run.state = .acting ∨ l.run.state = .waiting then
             { l.run with stepTimer := timerTick l.run.stepTimer, waitTimer := timerTick l.run.waitTimer }
             else l.run)
           out := { l.out with timer := timerTick l.out.timer } }) ∧
  ((∀ T k : Nat, timerDue (Nat.repeat timerTick k (timerStart T)) = decide (T + 1 ≤ k)) ∧
   (∀ k : Nat, timerTick none = none ∧ timerDue none = false ∧ timerDue (some (k + 1)) = false) ∧
   ∀ c : Clock, c.cycle = 0 →
     (Nat.repeat Clock.advance 5 c).ticks = c.ticks + 147456 ∧ (Nat.repeat Clock.advance 5 c).cycle = 0 ∧
     (Nat.repeat Clock.advance 4 c).ticks = c.ticks + 4 * 29491 ∧ (Nat.repeat Clock.advance 5 c).ms = c.ms + 5)

/-! ## Console lines -/

/-- RXD falls on an ON line: a frame begins with the P and format in force, or the edge passes through the frame in
progress, whose sample points before this tick are taken at the high level RXD had; in MARKING a low run begins with
its Absent Time timer, in SPACING the 10 ms timer stops. A MEASURING line's edge waits for its sixteen ticks, or makes
a glitch with the edge that waits; a run still unjudged after sixteen ticks is judged first (log 21). On a line that
is not ON only the level changes. The ticks an edge carries are log entry 3; that a sample point on this very tick
sees the new level is log entry 4. RXD rises on an ON line: the edge passes through the frame in progress, whose
sample points before this tick are taken at the low level RXD had, and which is no longer unbroken; that a sample
point on this very tick sees the new level is log entry 4. A low run that began in MARKING ends, and it was a break if
it lasted a frame time or its frame was withheld; a break seen stamps Break Time, clears both freshness counts and
raises BREAK_SEEN. In SPACING the 10 ms timer starts. A MEASURING line's edge waits or makes a glitch as at a fall,
but a rise before the first fall is nothing. On a line that is not ON only the level changes. -/
def Obligations.RxdEdges : Prop :=
  (∀ (n : LineNo) (ticks : Nat) (s : State), (s.line n).rxd = true →
     let l := s.line n
     let d := l.det
     let m := d.meas
     let frame : Frame := match l.frame with
       | some f => { f with
           elapsed := f.elapsed + ticks
           samples := f.samples ++ List.replicate
             (min (samplesBefore f.period (f.elapsed + ticks)) f.sampleCount - f.samples.length) true }
       | none => ⟨l.period, l.settings.dataBits, l.settings.parity, 0, false, [], true, true⟩
     let becomes (e : Detection) : Prop := ∃ u : State, exec (.rxdFall n ticks) s = .next u.settlePort ∧
       (l.condition = .marking → LineBecomes n s u { l with
         rxd := false, frame := some frame, lowRun := true, runWithheld := false
         absentTimer := timerStart l.settings.absentTime, det := e } s.reports) ∧
       (l.condition = .spacing → LineBecomes n s u { l with
         rxd := false, frame := some frame, markTimer := none, det := e } s.reports)
     (l.status ≠ .on → ∃ t : State, exec (.rxdFall n ticks) s = .next t ∧
       LineBecomes n s t { l with rxd := false } s.reports) ∧
     (l.status = .on → d.state ≠ .measuring → becomes d) ∧
     (l.status = .on → d.state = .measuring →
       (m.edge = false → m.begun = false → becomes { d with meas := ⟨false, true, 0⟩ }) ∧
       (m.edge = false → m.begun = true → becomes { d with meas := ⟨true, true, m.ticks + ticks⟩ }) ∧
       (m.edge = true → ticks < 16 → becomes { d with meas := ⟨m.begun, false, m.ticks + ticks⟩ }) ∧
       (m.edge = true → 16 ≤ ticks → d.counted < 23 →
         becomes { d.judgeEdge with meas := ⟨true, true, d.judgeEdge.meas.ticks + ticks⟩ }) ∧
       (m.edge = true → 16 ≤ ticks →
         let v := s.judgeEdge n
         exec (.rxdFall n ticks) s = .next (((if (v.line n).det.state = .measuring then
           v.modDet n fun e => { e with meas := e.meas.onEdge ticks true } else v).modLine n fun k =>
             k.fall ticks).settlePort)))) ∧
  (∀ (n : LineNo) (ticks : Nat) (s : State), (s.line n).rxd = false →
     let l := s.line n
     let d := l.det
     let m := d.meas
     let frame : Option Frame := match l.frame with
       | some f => some { f with
           elapsed := f.elapsed + ticks
           samples := f.samples ++ List.replicate
             (min (samplesBefore f.period (f.elapsed + ticks)) f.sampleCount - f.samples.length) false
           unbroken := false }
       | none => none
     let becomes (e : Detection) : Prop := ∃ u : State, exec (.rxdRise n ticks) s = .next u.settlePort ∧
       (l.condition = .spacing → LineBecomes n s u { l with
         rxd := true, frame := frame, markTimer := timerStart 10, det := e } s.reports) ∧
       (l.condition = .marking → l.lowRun = true → (l.frameTicks ≤ ticks ∨ l.runWithheld = true) →
         LineBecomes n s u { l with
           rxd := true, frame := frame, lowRun := false, runWithheld := false, absentTimer := none
           breakTime := s.clock.ms, scriptFresh := 0, trigFresh := 0, det := e } (s.raise n .breakSeen).reports) ∧
       (l.condition = .marking → (l.lowRun = false ∨ ticks < l.frameTicks ∧ l.runWithheld = false) →
         LineBecomes n s u { l with
           rxd := true, frame := frame, lowRun := false, runWithheld := false, absentTimer := none, det := e }
           s.reports)
     (l.status ≠ .on → ∃ t : State, exec (.rxdRise n ticks) s = .next t ∧
       LineBecomes n s t { l with rxd := true } s.reports) ∧
     (l.status = .on → d.state ≠ .measuring → becomes d) ∧
     (l.status = .on → d.state = .measuring →
       (m.edge = false → m.begun = false → becomes d) ∧
       (m.edge = false → m.begun = true → becomes { d with meas := ⟨true, true, m.ticks + ticks⟩ }) ∧
       (m.edge = true → ticks < 16 → becomes { d with meas := ⟨m.begun, false, m.ticks + ticks⟩ }) ∧
       (m.edge = true → 16 ≤ ticks → d.counted < 23 →
         becomes { d.judgeEdge with meas := ⟨true, true, d.judgeEdge.meas.ticks + ticks⟩ }) ∧
       (m.edge = true → 16 ≤ ticks →
         let v := s.judgeEdge n
         let w := if (v.line n).det.state = .measuring then
           v.modDet n fun e => { e with meas := e.meas.onEdge ticks false } else v
         let x := w.modLine n fun k => k.rise ticks
         exec (.rxdRise n ticks) s = .next (if (w.line n).wasBreak ticks then x.breakSeen n else x).settlePort)))

/-- The two expiries of the condition monitor change the condition, stamp Condition Time, clear both freshness counts
and raise CONDITION_CHANGED. A runner WAITING for the condition that the line now has ends its step by Success in that
same event; any other runner, WAITING or not, is as it was. -/
def Obligations.ConditionChanges : Prop :=
  ∀ (n : LineNo) (s : State), (s.line n).status = .on →
    let l := s.line n
    let awaited (code : Byte) : Prop := l.run.state = .waiting ∧ (s.step n).wait = code
    let changed (c : Condition) : Line := { l with
      condition := c, conditionTime := s.clock.ms, scriptFresh := 0, trigFresh := 0, lowRun := false
      absentTimer := none, markTimer := none }
    (l.condition = .marking → l.rxd = false → timerDue l.absentTimer = true →
      ∃ v : State, LineBecomes n s v (changed .spacing) (s.raise n .conditionChanged).reports ∧
        (awaited 8 → exec (.absentTimeExpiry n) s = .next (follow n (v.endStep n .success false)).settlePort) ∧
        (¬ awaited 8 → exec (.absentTimeExpiry n) s = .next v.settlePort)) ∧
    (l.condition = .spacing → l.rxd = true → timerDue l.markTimer = true →
      ∃ v : State, LineBecomes n s v (changed .marking) (s.raise n .conditionChanged).reports ∧
        (awaited 7 → exec (.markingTimerExpiry n) s = .next (follow n (v.endStep n .success false)).settlePort) ∧
        (¬ awaited 7 → exec (.markingTimerExpiry n) s = .next v.settlePort))

/-- The start check: a frame whose start sample is low proceeds; one whose start sample is high was a glitch and is
gone. The sample is the one an edge that has passed through the frame left, else the present level of RXD, or high
where RXD rises on this very tick (log 4). The sample points of a frame lie at k * P + floor(P / 2) ticks after its
start edge: k for data bit k, the next for the parity bit, one P further on for the stop bit. An edge finds exactly
the points below its tick taken, those still untaken at the level RXD had before it; a sample taken now is the present
level, or high where RXD rises on this very tick. That a sample on the edge's own tick sees the new level is the
model's (log 4). -/
def Obligations.FrameTiming : Prop :=
  (∀ (n : LineNo) (rises : Bool) (f : Frame) (s : State), (s.line n).status = .on → (s.line n).frame = some f →
     f.checked = false →
     let l := s.line n
     let sample : Bool := match f.samples with
       | [] => l.rxd || rises
       | b :: _ => b
     (sample = true → ∃ t : State, exec (.startCheck ⟨n, rises⟩) s = .next t ∧
       LineBecomes n s t { l with frame := none } s.reports) ∧
     (sample = false → ∃ t : State, exec (.startCheck ⟨n, rises⟩) s = .next t ∧
       LineBecomes n s t { l with frame := some { f with
         checked := true, samples := (if f.samples = [] then [false] else f.samples) } } s.reports)) ∧
  ((∀ p t k : Nat, 1 ≤ p → (k < samplesBefore p t ↔ k * p + p / 2 < t)) ∧
   (∀ f : Frame, f.sampleCount =
     (match f.dataBits with | .seven => 7 | .eight => 8) + (match f.parity with | .none => 0 | _ => 1) + 2) ∧
   (∀ (f : Frame) (ticks : Nat) (level : Bool), 1 ≤ f.period →
     f.pass ticks level = { f with elapsed := f.elapsed + ticks, samples := (f.pass ticks level).samples } ∧
     (∀ k : Nat, k < f.samples.length → (f.pass ticks level).samples[k]? = f.samples[k]?) ∧
     ∀ k : Nat, f.samples.length ≤ k → k < f.sampleCount →
       (f.pass ticks level).samples[k]? = (if k * f.period + f.period / 2 < f.elapsed + ticks then some level else none)) ∧
   ∀ (f : Frame) (k : Nat) (rxd rises : Bool),
     (f.samples.length ≤ k →
       f.samplesNow k rxd rises = f.samples ++ List.replicate (k - f.samples.length) rxd ++ [rxd || rises]) ∧
     (k < f.samples.length → f.samplesNow k rxd rises = f.samples))

/-- The judgement at the stop sample, on the samples start, data, parity if any, stop: withheld exactly when every
data sample and the stop sample are low; otherwise errored exactly on a low stop sample or wrong parity. The
character's value has data bit 1 as its least significant bit. -/
def Obligations.FrameJudgement : Prop :=
  ∀ (f : Frame) (data par : List Bool) (stop : Bool),
    data.length = f.dataCount → par.length = f.parityCount →
    let samples := false :: data ++ par ++ [stop]
    let odd := (data ++ par).foldl xor false
    let parityBad : Bool := match f.parity with | .none => false | .even => odd | .odd => !odd
    let value : Byte := BitVec.ofNat 8 (bitsValue data)
    (f.judge samples = .withheld ↔ stop = false ∧ ∀ b ∈ data, b = false) ∧
    (stop = true → parityBad = false → f.judge samples = .good value) ∧
    ((stop = false ∧ (∃ b ∈ data, b = true)) ∨ (stop = true ∧ parityBad = true) → f.judge samples = .errored value) ∧
    ∀ k : Nat, k < data.length → value.getLsbD k = data.getD k false

/-- A character reaches a line whose runner is not WAITING, whose trigger is not ARMED, whose rate is not under
verification and whose Flow is NONE: it joins a FIFO with space; a good character other than NUL enters the history
and both freshness counts rise to at most 24; a good NUL leaves both; an errored one adds to the saturating garble
count and clears both freshness counts; a withheld frame is not delivered. A rise of RXD on the stop sample's tick
makes that sample high whichever is taken first (log 4). A good character other than NUL reaches a line whose runner
is WAITING: both freshness counts and the history take it, and then MATCH ends the step by Success on pattern A,
MATCH_EITHER by Success on A and else by Alternate on B, MATCH_THEN goes from phase A to B on A and ends by Success on
B, QUIET starts its timer again, COUNT counts down and ends the step at 0, and the other waits do nothing. A NUL or an
errored character only starts QUIET's timer again. A character reaches the other consumers of a line whose runner is
not WAITING. An ARMED trigger whose pattern matches as a good character enters the history is COUNTING, with Lead the
FIFO's content, that character included, and Match Time stamped. While VERIFYING, a good character whose start edge
came after the adoption counts, and the fourth concludes SETTLED; an errored one strikes the adopted entry off and
fails the attempt; one begun before it does neither. A good XOFF or XON of an XONXOFF line acts on the flow hold and
does not enter the history. -/
def Obligations.CharacterDelivered : Prop :=
  (∀ (n : LineNo) (rises : Bool) (f : Frame) (s : State),
     let l := s.line n
     let cmd : Instr := .characterDelivered ⟨n, rises⟩
     l.status = .on → l.frame = some f → f.checked = true → l.run.state ≠ .waiting → l.det.state ≠ .verifying →
     l.cap.trigger = .off → l.settings.flow = .none → l.cap.fifo.length < 64 →
     let judged := f.judge (f.samplesNow (f.sampleCount - 1) l.rxd rises)
     let taken (c : Byte) : Line := { l with frame := none, cap := { l.cap with fifo := l.cap.fifo ++ [c] } }
     (judged = .withheld → ∃ t : State, exec cmd s = .next t ∧
       LineBecomes n s t { l with frame := none, runWithheld := l.runWithheld || f.unbroken } s.reports) ∧
     (∀ c, judged = .good c → c ≠ 0x00 →
       ∃ u : State, exec cmd s = .next u.settlePort ∧
         LineBecomes n s u { taken c with
           history := (l.history ++ [c]).drop (l.history.length + 1 - 24)
           scriptFresh := min 24 (l.scriptFresh + 1), trigFresh := min 24 (l.trigFresh + 1) } s.reports) ∧
     (judged = .good 0x00 →
       ∃ u : State, exec cmd s = .next u.settlePort ∧ LineBecomes n s u (taken 0x00) s.reports) ∧
     (∀ c, judged = .errored c →
       ∃ u : State, exec cmd s = .next u.settlePort ∧
         LineBecomes n s u { taken c with
           garble := min 65535 (l.garble + 1), scriptFresh := 0, trigFresh := 0 }
           (if l.garble = 65535 then s.reports else (s.mark n).reports))) ∧
  (∀ (n : LineNo) (rises : Bool) (f : Frame) (c : Byte) (s : State),
     let l := s.line n
     let r := l.run
     let st := s.step n
     let cmd : Instr := .characterDelivered ⟨n, rises⟩
     l.status = .on → l.frame = some f → f.checked = true → r.state = .waiting → l.det.state ≠ .verifying →
     l.cap.trigger = .off → l.settings.flow = .none → l.cap.fifo.length < 64 →
     let judged := f.judge (f.samplesNow (f.sampleCount - 1) l.rxd rises)
     let taken : Line := { l with frame := none, cap := { l.cap with fifo := l.cap.fifo ++ [c] } }
     let good : Line := { taken with
       history := (l.history ++ [c]).drop (l.history.length + 1 - 24)
       scriptFresh := min 24 (l.scriptFresh + 1), trigFresh := min 24 (l.trigFresh + 1) }
     let bad : Line := { taken with garble := min 65535 (l.garble + 1), scriptFresh := 0, trigFresh := 0 }
     let marked : Reports := (s.mark n).reports
     let garbled : Reports := if l.garble = 65535 then s.reports else marked
     let hit (i : Byte) : Bool := (Pattern.ofRecord (s.pattern n i)).matches good.scriptFresh good.history
     let quiet (k : Line) : Line := { k with run := { r with waitTimer := some (max 1 (min 60000 st.waitArg.toNat) + 1) } }
     let stays (k : Line) (q : Reports) : Prop := ∃ u : State, exec cmd s = .next u.settlePort ∧ LineBecomes n s u k q
     let ends (k : Line) (exit : TrailExit) : Prop := ∃ v : State, LineBecomes n s v k s.reports ∧
       exec cmd s = .next (v.exitStep n exit).settlePort
     (judged = .good c → c ≠ 0x00 →
       (st.wait = 1 → (hit st.patternA = true → ends good .success) ∧ (hit st.patternA = false → stays good s.reports)) ∧
       (st.wait = 2 → (hit st.patternA = true → ends good .success) ∧
         (hit st.patternA = false → hit st.patternB = true → ends good .alternate) ∧
         (hit st.patternA = false → hit st.patternB = false → stays good s.reports)) ∧
       (st.wait = 3 → r.phase = .a →
         (hit st.patternA = true → stays { good with scriptFresh := 0, run := { r with phase := .b } } marked) ∧
         (hit st.patternA = false → stays good s.reports)) ∧
       (st.wait = 3 → r.phase = .b → (hit st.patternB = true → ends good .success) ∧
         (hit st.patternB = false → stays good s.reports)) ∧
       (st.wait = 4 → stays (quiet good) s.reports) ∧
       (st.wait = 5 → (r.countLeft ≤ 1 → ends { good with run := { r with countLeft := 0 } } .success) ∧
         (1 < r.countLeft → stays { good with run := { r with countLeft := r.countLeft - 1 } } s.reports)) ∧
       ((st.wait = 0 ∨ st.wait = 6 ∨ st.wait = 7 ∨ st.wait = 8) → stays good s.reports)) ∧
     (judged = .good 0x00 → c = 0x00 → (st.wait = 4 → stays (quiet taken) s.reports) ∧
       (st.wait ≠ 4 → stays taken s.reports)) ∧
     (judged = .errored c → (st.wait = 4 → stays (quiet bad) garbled) ∧ (st.wait ≠ 4 → stays bad garbled))) ∧
  (∀ (n : LineNo) (rises : Bool) (f : Frame) (c : Byte) (s : State),
     let l := s.line n
     let d := l.det
     let cmd : Instr := .characterDelivered ⟨n, rises⟩
     l.status = .on → l.frame = some f → f.checked = true → l.run.state ≠ .waiting → l.cap.fifo.length < 64 →
     let judged := f.judge (f.samplesNow (f.sampleCount - 1) l.rxd rises)
     let taken : Line := { l with frame := none, cap := { l.cap with fifo := l.cap.fifo ++ [c] } }
     let good : Line := { taken with
       history := (l.history ++ [c]).drop (l.history.length + 1 - 24)
       scriptFresh := min 24 (l.scriptFresh + 1), trigFresh := min 24 (l.trigFresh + 1) }
     let bad : Line := { taken with garble := min 65535 (l.garble + 1), scriptFresh := 0, trigFresh := 0 }
     let garbled : Reports := if l.garble = 65535 then s.reports else (s.mark n).reports
     (∀ p, judged = .good c → c ≠ 0x00 → l.settings.flow = .none → d.state ≠ .verifying →
       l.cap.trigger = .armed → l.cap.pattern = some p →
       (p.matches good.trigFresh good.history = true → ∃ u : State, exec cmd s = .next u.settlePort ∧
         LineBecomes n s u { good with cap := { good.cap with
           trigger := .counting, lead := l.cap.fifo.length + 1, remaining := l.cap.post, matchTime := s.clock.ms } }
           (s.mark n).reports) ∧
       (p.matches good.trigFresh good.history = false → ∃ u : State, exec cmd s = .next u.settlePort ∧
         LineBecomes n s u good s.reports)) ∧
     (l.settings.flow = .none → l.cap.trigger = .off → d.state = .verifying → f.counted = true →
       (judged = .good c → c ≠ 0x00 →
         (d.verified < 3 → ∃ u : State, exec cmd s = .next u.settlePort ∧
           LineBecomes n s u { good with det := { d with verified := d.verified + 1 } } s.reports) ∧
         (3 ≤ d.verified → ∃ v : State, LineBecomes n s v { good with det := { d with verified := d.verified + 1 } }
           s.reports ∧ exec cmd s = .next (v.concludeDetection n .settled).settlePort)) ∧
       (judged = .errored c → ∃ v : State, LineBecomes n s v { bad with det := { d with
           rejected := (match d.adoption with
             | .entry e => d.rejected ||| BitVec.ofNat 12 (2 ^ e.val)
             | _ => d.rejected) } } garbled ∧
         exec cmd s = .next (v.failAttempt n).settlePort)) ∧
     (l.settings.flow = .none → l.cap.trigger = .off → d.state = .verifying → f.counted = false →
       (judged = .good c → c ≠ 0x00 → ∃ u : State, exec cmd s = .next u.settlePort ∧ LineBecomes n s u good s.reports) ∧
       (judged = .errored c → ∃ u : State, exec cmd s = .next u.settlePort ∧ LineBecomes n s u bad garbled)) ∧
     (judged = .good c → (c = 0x11 ∨ c = 0x13) → l.settings.flow = .xonxoff → d.state ≠ .verifying →
       (l.cap.trigger = .off ∨ l.cap.trigger = .armed) →
       ∃ v : State, LineBecomes n s v taken s.reports ∧ exec cmd s = .next (v.flowCharacter n c).settlePort))

/-- The flow hold of an XONXOFF line: a good XOFF sets it, starts the hold limit timer unless Hold Limit is 0, and
sends IDLE and GAP to HELD; a good XON clears it and sends HELD to IDLE; each change marks the report dirty. A hold
that is already so stays as it is. The transmit owner: the changes a claim makes, and that Owner In Force follows
Owner at once unless a character is in progress, when it keeps its value; leaving the operator empties the staging.
Owner is given a value in an event: the report is dirty if Owner or Owner In Force changed, and a QUEUED runner starts
its entry step in that event where SCRIPT is now in force. -/
def Obligations.FlowHoldAndOwner : Prop :=
  (∀ (n : LineNo) (s : State), (s.line n).settings.flow = .xonxoff →
     let l := s.line n
     (l.flowHeld = false → LineBecomes n s (s.flowCharacter n 0x13) { l with
       flowHeld := true
       holdTimer := (if l.settings.holdLimit = 0 then none else timerStart l.settings.holdLimit)
       tx := (match l.tx with
         | .idle => .held
         | .gap _ => .held
         | x => x) } (s.mark n).reports) ∧
     (l.flowHeld = true → LineBecomes n s (s.flowCharacter n 0x11) { l with
       flowHeld := false, holdTimer := none
       tx := (match l.tx with
         | .held => .idle
         | x => x) } (s.mark n).reports) ∧
     (l.flowHeld = true → LineBecomes n s (s.flowCharacter n 0x13) l s.reports) ∧
     (l.flowHeld = false → LineBecomes n s (s.flowCharacter n 0x11) l s.reports)) ∧
  ((∀ r : RunnerState,
     claimOwner .free true r = some .operator ∧
     claimOwner .operator false r = (if r = .queued then some .script else some .free) ∧
     claimOwner .lent false r = some .script ∧
     claimOwner .script true r = (if r = .paused .acting ∨ r = .paused .waiting then some .lent else none) ∧
     claimOwner .free false r = none ∧ claimOwner .operator true r = none ∧ claimOwner .script false r = none ∧
     claimOwner .lent true r = none) ∧
   ∀ (l : Line) (o : Owner),
     (l.tx.isSending = true → l.setOwner o = { l with owner := o }) ∧
     (l.tx.isSending = false → (l.setOwner o).owner = o ∧ (l.setOwner o).ownerInForce = o ∧
       ((l.ownerInForce = .operator ∨ l.ownerInForce = .lent) → (o = .free ∨ o = .script) → (l.setOwner o).staging = []) ∧
       ((o = .operator ∨ o = .lent) → (l.setOwner o).staging = l.staging))) ∧
  (∀ (n : LineNo) (o : Owner) (s : State),
     let l := s.line n
     ∃ v : State, LineBecomes n s v (l.setOwner o)
         (if l.owner = o ∧ (l.tx.isSending = true ∨ l.ownerInForce = o) then s else s.mark n).reports ∧
       (l.tx.isSending = false → l.run.state = .queued → o = .script →
         s.giveOwner n o = follow n (v, some l.run.entry)) ∧
       ((l.tx.isSending = true ∨ l.run.state ≠ .queued ∨ o ≠ .script) → s.giveOwner n o = v))

/-! ## Patterns -/

/-- One position of a pattern agrees with a character when the position is a wildcard, the values are equal, or Fold
Case is set and both are the same letter in different cases; no other byte is folded, so a byte of 0x80 or above
without a wildcard agrees with itself alone. -/
def Obligations.PatternAgrees : Prop :=
  ∀ (p : Pattern) (i : Nat) (b c : Byte), p.chars[i]? = some b →
    let upper (x : Byte) : Prop := 0x41 ≤ x.toNat ∧ x.toNat ≤ 0x5A
    let lower (x : Byte) : Prop := 0x61 ≤ x.toNat ∧ x.toNat ≤ 0x7A
    (p.agrees i c = true ↔
      p.wild.getLsbD i = true ∨ b = c ∨
        p.foldCase = true ∧
          ((upper b ∧ c.toNat = b.toNat + 0x20) ∨ (lower b ∧ b.toNat = c.toNat + 0x20 ∧ upper c))) ∧
    (p.wild.getLsbD i = false → 0x80 ≤ b.toNat → c.toNat < 0x80 → p.agrees i c = false)

/-- The match test: the freshness is at least the Length, every position agrees with its character of the newest span,
and with Line Start set either the freshness equals the Length or the character before the span is CR or LF. -/
def Obligations.PatternMatches : Prop :=
  ∀ (p : Pattern) (fresh : Nat) (history : List Byte), p.length ≤ history.length →
    (p.matches fresh history = true ↔
      p.length ≤ fresh ∧
      (∀ i : Nat, i < p.length → ∃ c, history[history.length - p.length + i]? = some c ∧ p.agrees i c = true) ∧
      (p.lineStart = true → fresh = p.length ∨
        ∃ c, (history.take (history.length - p.length)).getLast? = some c ∧ (c = 0x0D ∨ c = 0x0A)))

/-! ## Capture -/

/-- The three outcomes of an offer to the receive FIFO, by the first test that applies: a freeze drop while FROZEN, or
while COUNTING with Remaining post-match characters waiting already; an overflow drop with DATA_DROPPED at 64
characters; else the character joins as the newest. A drop adds one to Dropped, which saturates. The armed trigger's
match: COUNTING, Lead the FIFO's content, Remaining the Post Count, Match Time stamped. A completed write is accounted
first to Lead and then to Remaining, and the trigger freezes exactly when it leaves both 0. -/
def Obligations.FifoOffer : Prop :=
  (∀ (n : LineNo) (b : Byte) (s : State),
     let l := s.line n
     let c := l.cap
     let frozen := c.trigger = .frozen ∨ (c.trigger = .counting ∧ c.remaining ≤ c.fifo.length - c.lead)
     let dropped : Line := { l with cap := { c with dropped := min 4294967295 (c.dropped + 1) } }
     (frozen → LineBecomes n s (s.offer n b) dropped
       (if c.dropped = 4294967295 then s.reports else (s.mark n).reports)) ∧
     (¬ frozen → 64 ≤ c.fifo.length →
       LineBecomes n s (s.offer n b) dropped (s.raise n .dataDropped).reports) ∧
     (¬ frozen → c.fifo.length < 64 →
       LineBecomes n s (s.offer n b) { l with cap := { c with fifo := c.fifo ++ [b] } } s.reports)) ∧
  ((∀ (n : LineNo) (s : State),
     let l := s.line n
     LineBecomes n s (s.triggerMatched n) { l with cap := { l.cap with
       trigger := .counting, lead := l.cap.fifo.length, remaining := l.cap.post, matchTime := s.clock.ms } }
       (s.mark n).reports) ∧
   ∀ (c : Capture) (k : Nat), c.trigger = .counting →
     (c.account k).lead = c.lead - k ∧ (c.account k).remaining = c.remaining - (k - c.lead) ∧
     ((c.account k).trigger = .frozen ↔ (c.account k).lead = 0 ∧ (c.account k).remaining = 0))

/-- A completed capture write of k characters: they leave the FIFO and Head advances by k; in HOLD Taken In Force is
kept within one ring size behind Head, Tail follows it unless the trigger is FROZEN, and Half Reached says whether the
used count is at least half the ring; in ROLL Tail is pushed to one ring size behind Head if it lies further, and
Lapped says whether Taken In Force is further from Head than Tail. -/
def Obligations.CaptureCounts : Prop :=
  ∀ (c : Capture) (size k : Nat), size < 4294967296 →
    let head := c.head + BitVec.ofNat 32 k
    let h := c.written .hold size k
    let r := c.written .roll size k
    (h.head = head ∧ r.head = head ∧ h.fifo = c.fifo.drop k ∧ r.fifo = c.fifo.drop k ∧ h.dropped = c.dropped) ∧
    (h.taken = (if dist c.taken head ≤ size then c.taken else head - BitVec.ofNat 32 size) ∧
      (c.trigger ≠ .frozen → h.tail = h.taken ∧ dist h.tail h.head ≤ size) ∧
      (c.trigger = .frozen → h.tail = c.tail) ∧
      (h.half = true ↔ size / 2 ≤ dist h.taken h.head) ∧ h.lapped = c.lapped) ∧
    (r.taken = c.taken ∧
      r.tail = (if size < dist c.tail head then head - BitVec.ofNat 32 size else c.tail) ∧
      dist r.tail r.head ≤ size ∧
      (r.lapped = true ↔ dist r.tail r.head < dist r.taken r.head) ∧ r.half = c.half)

/-- The capture write's transaction: n oldest characters of the FIFO, to Capture Base + (Head mod Capture Size), n the
least of 128, the FIFO's content, the bytes to the ring end and, in HOLD, the room; so it never crosses the ring end
and in HOLD never takes more than the room. -/
def Obligations.CaptureTransaction : Prop :=
  ∀ (n : LineNo) (s : State),
    let l := s.line n
    let size := l.settings.captureSize
    let t := s.form (.capture n)
    t.length = l.writable ∧ t.data = l.cap.fifo.take l.writable ∧
    t.addr = l.settings.captureBase + BitVec.ofNat 32 (l.cap.head.toNat % size) ∧
    l.writable ≤ 128 ∧ l.writable ≤ l.cap.fifo.length ∧ l.cap.head.toNat % size + l.writable ≤ max size (l.cap.head.toNat % size) ∧
    (l.settings.captureMode = .hold → l.writable =
      min (min (min 128 l.cap.fifo.length) (size - l.cap.head.toNat % size)) (size - dist l.cap.taken l.cap.head)) ∧
    (l.settings.captureMode = .roll → l.writable =
      min (min 128 l.cap.fifo.length) (size - l.cap.head.toNat % size))

/-- CAPTURE_WRITE_COMPLETE of a line's write, not overtaken by the line going ON again: the counts become those of a
completed write, Draining clears with the last character, the report is dirty, and each of CAPTURE_FROZEN,
CAPTURE_HALF and CAPTURE_LAPPED is raised exactly when its condition newly holds. A write overtaken changes no line.
-/
def Obligations.CaptureWriteCompletes : Prop :=
  ∀ (n : LineNo) (t : Transaction) (s : State), s.port.inFlight = some t → t.job = .capture n →
    let l := s.line n
    let w := l.cap.written l.settings.captureMode l.settings.captureSize t.length
    (t.stale = true → ∃ u : State, exec .captureWriteComplete s = .next u.settlePort ∧
      u = { s with port := { s.port with inFlight := none, tenure := s.port.tenure + 1 } }) ∧
    (t.stale = false → ∃ u : State, exec .captureWriteComplete s = .next u.settlePort ∧
      u.port = { s.port with inFlight := none, tenure := s.port.tenure + 1 } ∧
      u.common = s.common ∧ u.store = s.store ∧ OnlyLine n s u ∧
      u.line n = { l with cap := { w with draining := l.cap.draining && !w.fifo.isEmpty } } ∧
      u.reports.dirty.get n = true ∧
      u.reports.held.get n = s.reports.held.get n
        ||| (if l.cap.trigger ≠ .frozen ∧ w.trigger = .frozen then 0x040 else 0)
        ||| (if l.cap.half = false ∧ w.half = true then 0x080 else 0)
        ||| (if l.cap.lapped = false ∧ w.lapped = true then 0x100 else 0))

/-! ## Rate finding -/

/-- The Standard Rate Table, and snapping: the error of an entry in per mille, the candidate of a look the entry not
rejected of least error, the smaller Ps on a tie, taken when its error is within the tolerance; the second look halves
the period; failing both, the raw period is adopted if allowed. -/
def Obligations.Snapping : Prop :=
  (rateTable = [32, 64, 128, 256, 512, 768, 1536, 3072, 6144, 12288, 24576, 98304] ∧
    ∀ e : Fin 12, rateTable[e.val]? = some (ratePs e)) ∧
  (∀ q ps : Nat, rateError q ps = (if q ≤ ps then (ps - q) * 1000 / ps else (q - ps) * 1000 / ps)) ∧
  (∀ (rej : BitVec 12) (tol q : Nat) (e : Fin 12), look rej tol q = some e ↔
    rej.getLsbD e.val = false ∧ rateError q (ratePs e) ≤ tol ∧
    (∀ d : Fin 12, rej.getLsbD d.val = false → rateError q (ratePs e) ≤ rateError q (ratePs d)) ∧
    ∀ d : Fin 12, d < e → rej.getLsbD d.val = false → rateError q (ratePs e) < rateError q (ratePs d)) ∧
  ∀ (rej : BitVec 12) (tol pm : Nat) (raw : Bool),
    (∀ e, look rej tol pm = some e → snap rej tol raw pm = some (.entry e, ratePs e)) ∧
    (look rej tol pm = none → ∀ e, look rej tol (pm / 2) = some e → snap rej tol raw pm = some (.entry e, ratePs e)) ∧
    (look rej tol pm = none → look rej tol (pm / 2) = none →
      snap rej tol raw pm = (if raw then some (.raw, pm) else none))

/-- The sixteen-tick judgement of a MEASURING line's edge, before the 24th run: the edge begins the measurement; a run
under 16 ticks goes on; one of 131072 ticks or more is idle and not counted; any other is counted, and the Least Run
takes the smaller. The line is otherwise as it was. The 24th counted run: Measured Period takes the least run, and a
successful snapping adopts: P, Adoption, VERIFYING with Verified Count 0; the slot is given up. A measurement whose
24th run snaps to no rate fails the attempt. Each attempt failed counts: below the fourth the line gives up its slot
and rejoins the tail of the Detect Queue with its counted runs gone, at the fourth the detection concludes FAILED. The
free slots go to the head of the queue in its order, and a line given one is MEASURING. Each sixteen-tick judgement is
that of State.judgeEdge. That Verified Count stays, and that the counted runs are gone at the requeueing, is the
model's choice (log entry 39). -/
def Obligations.RunJudged : Prop :=
  (∀ (n : LineNo) (s : State),
     let l := s.line n
     let d := l.det
     d.state = .measuring → d.meas.edge = true → d.counted < 23 →
     ∃ u : State, exec (.runJudged n) s = .next u.settlePort ∧
       LineBecomes n s u { l with det := (u.line n).det } s.reports ∧
       (d.meas.begun = false → (u.line n).det = { d with meas := ⟨true, false, 0⟩ }) ∧
       (d.meas.begun = true → d.meas.ticks < 16 → (u.line n).det = { d with meas := ⟨true, false, d.meas.ticks⟩ }) ∧
       (d.meas.begun = true → 131072 ≤ d.meas.ticks → (u.line n).det = { d with meas := ⟨true, false, 0⟩ }) ∧
       (d.meas.begun = true → 16 ≤ d.meas.ticks → d.meas.ticks < 131072 →
         (u.line n).det = { d with
           meas := ⟨true, false, 0⟩, counted := d.counted + 1
           least := some (match d.least with | none => d.meas.ticks | some m => min m d.meas.ticks) })) ∧
  (∀ (n : LineNo) (a : Adoption) (p m : Nat) (s : State),
     let l := s.line n
     let d := l.det
     let pm := min m d.meas.ticks
     d.state = .measuring → d.meas.edge = true → d.meas.begun = true → d.counted = 23 → d.least = some m →
     16 ≤ d.meas.ticks → d.meas.ticks < 131072 →
     snap d.rejected l.settings.tolerance l.settings.rawAllowed pm = some (a, p) →
     ∃ u : State, exec (.runJudged n) s = .next u.settlePort ∧
       (u.line n).period = p ∧ (u.line n).det.state = .verifying ∧ (u.line n).det.adoption = a ∧
       (u.line n).det.verified = 0 ∧ (u.line n).det.counted = 0 ∧ (u.line n).det.least = none ∧
       (u.line n).det.measured = some pm ∧ (u.line n).det.rejected = d.rejected ∧
       (u.line n).det.attempts = d.attempts ∧ n ∉ u.slots ∧ u.reports.dirty.get n = true ∧ u.common = s.common) ∧
  (∀ (n : LineNo) (s : State),
     let l := s.line n
     let d := l.det
     (d.state = .measuring → d.meas.edge = true → exec (.runJudged n) s = .next (s.judgeEdge n).settlePort) ∧
     (∀ m, d.state = .measuring → d.meas.edge = true → d.meas.begun = true → d.counted = 23 → d.least = some m →
       16 ≤ d.meas.ticks → d.meas.ticks < 131072 →
       snap d.rejected l.settings.tolerance l.settings.rawAllowed (min m d.meas.ticks) = none →
       ∃ v : State, LineBecomes n s v { l with det := { d with
           meas := ⟨true, false, 0⟩, counted := 24, least := some (min m d.meas.ticks)
           measured := some (min m d.meas.ticks) } } (s.mark n).reports ∧
         exec (.runJudged n) s = .next (v.failAttempt n).settlePort) ∧
     (3 ≤ d.attempts → ∃ v : State, LineBecomes n s v { l with det := { d with attempts := d.attempts + 1 } } s.reports ∧
       s.failAttempt n = v.concludeDetection n .failed) ∧
     (d.attempts < 3 →
       let u := s.failAttempt n
       let q := s.queue.filter (· ≠ n) ++ [n]
       let kept := s.slots.filter (· ≠ n)
       let granted := q.take (4 - kept.length)
       u.queue = q.drop (4 - kept.length) ∧ u.slots = kept ++ granted ∧ u.common = s.common ∧ u.store = s.store ∧
       u.port = s.port ∧ u.reports.dirty.get n = true ∧ u.reports.held = s.reports.held ∧
       u.line n = { l with det := { d with
         state := (if n ∈ granted then .measuring else .queued), attempts := d.attempts + 1, counted := 0
         least := none, meas := ⟨false, false, 0⟩ } } ∧
       ∀ m : LineNo, m ≠ n →
         (m ∉ granted → u.line m = s.line m) ∧
         (m ∈ granted → u.line m = { s.line m with det := { (s.line m).det with
           state := .measuring, meas := ⟨false, false, 0⟩ } } ∧ u.reports.dirty.get m = true)))

/-- The detect limit ends a detection in progress that no step waits for: SETTLED_UNVERIFIED with P kept from
VERIFYING, else FAILED with the Fallback Period; Conclusion Time is stamped, the evidence stays, and RATE_CONCLUDED is
raised. A detection's conclusion: no detection is in progress, the Outcome and Conclusion Time are recorded, P becomes
the Fallback Period after FAILED, a measurement in progress loses its counted runs, slot and queue place are given up,
and RATE_CONCLUDED is raised. A detection bound to a step then ends that step's DETECT_RATE action, which fails with
DETECT_FAILED after FAILED and completes otherwise. The detect limit concludes SETTLED_UNVERIFIED from VERIFYING and
FAILED otherwise. That Verified Count keeps its value is the model's choice (log entry 39). -/
def Obligations.DetectLimit : Prop :=
  (∀ (n : LineNo) (s : State),
     let l := s.line n
     let d := l.det
     d.state ≠ .none → timerDue d.limit = true → d.bound = false →
     ∃ u : State, exec (.detectLimitExpiry n) s = .next u.settlePort ∧
       (u.line n).det.state = .none ∧ (u.line n).det.limit = none ∧ (u.line n).det.concluded = s.clock.ms ∧
       (u.line n).det.attempts = d.attempts ∧ (u.line n).det.rejected = d.rejected ∧
       (u.line n).det.measured = d.measured ∧ (u.line n).det.adoption = d.adoption ∧
       (d.state = .verifying → (u.line n).det.outcome = .settledUnverified ∧ (u.line n).period = l.period) ∧
       (d.state ≠ .verifying → (u.line n).det.outcome = .failed ∧ (u.line n).period = l.settings.fallback) ∧
       n ∉ u.queue ∧ n ∉ u.slots ∧
       u.reports.held.get n = s.reports.held.get n ||| 0x020 ∧ u.common = s.common) ∧
  (∀ (n : LineNo) (o : DetectOutcome) (s : State),
     let l := s.line n
     let d := l.det
     (d.state ≠ .none → timerDue d.limit = true →
       exec (.detectLimitExpiry n) s =
         .next (s.concludeDetection n (if d.state = .verifying then .settledUnverified else .failed)).settlePort) ∧
     ∃ v : State,
       (d.bound = false → s.concludeDetection n o = v) ∧
       (d.bound = true → s.concludeDetection n o =
         v.actionEnded n .detectRate (if o = .failed then some .detectFailed else none)) ∧
       v.line n = { l with
         period := (if o = .failed then l.settings.fallback else l.period)
         det := { d with
           state := .none, outcome := o, concluded := s.clock.ms, limit := none, bound := false
           counted := (if d.state = .measuring then 0 else d.counted)
           least := (if d.state = .measuring then none else d.least), meas := ⟨false, false, 0⟩ } } ∧
       v.reports.held = (s.raise n .rateConcluded).reports.held ∧ v.reports.dirty.get n = true ∧
       (let q := s.queue.filter (· ≠ n)
        let kept := s.slots.filter (· ≠ n)
        v.queue = q.drop (4 - kept.length) ∧ v.slots = kept ++ q.take (4 - kept.length)) ∧
       v.common = s.common ∧ v.store = s.store ∧ v.port = s.port ∧
       ∀ m : LineNo, m ≠ n → (v.line m).SameButDetection (s.line m))

/-! ## The transmitter and the timers of a line -/

/-- CHARACTER_START: an IDLE transmitter of an ON line with the flow hold clear takes the oldest staged byte under
OPERATOR or LENT, or under SCRIPT the byte at Text Offset of the SEND that the runner is ACTING on, and sends it with
the transmit period and format of that moment; with no byte ready, or nobody the owner, it stays. The end of a
character: an operator's advances Sent by one modulo 2^32 and leaves the staging, a script's advances Text Offset, one
that no source counts advances nothing. The transmitter goes to a waiting break, to HELD, or to the gap it earned,
Line Gap after CR and Char Gap otherwise, IDLE for a gap of 0; on a line that is not ON, or after a character left
over from before it went ON, to IDLE without a gap. That such a leftover character ends in a waiting break or, with
the flow hold set, in HELD, is the model's choice (log entry 23). Owner In Force catches up with Owner, and the
staging is emptied as the operator loses the line. A QUEUED runner then starts its entry step if SCRIPT is in force,
and the end of the SEND's last byte ends the action. The level of TXD: high while the transmitter is IDLE, in a gap or
HELD, low in a break; while a character is sent, the bit in its turn, each lasting one transmit period: a low start
bit, the data bits from the least significant, the parity bit that makes the number of ones even or odd, and high stop
bits. The character lasts as many periods as it has bits. -/
def Obligations.CharacterSent : Prop :=
  (∀ (n : LineNo) (b : Byte) (s : State),
     let l := s.line n
     let sending (src : TxSource) : Line := { l with tx := .sending ⟨b, src,
       (if l.det.state = .queued ∨ l.det.state = .measuring then l.settings.fallback else l.period),
       l.settings.dataBits, l.settings.parity, l.settings.stopBits, false⟩ }
     l.status = .on → l.tx = .idle → l.flowHeld = false →
     ((l.ownerInForce = .operator ∨ l.ownerInForce = .lent) → l.staging.head? = some b →
       ∃ u : State, exec (.characterStart n) s = .next u.settlePort ∧ LineBecomes n s u (sending .operator) s.reports) ∧
     (l.ownerInForce = .script → l.run.state = .acting → l.run.begun = true → (s.step n).action = 1 →
       l.run.textOffset < (s.step n).textLength.toNat → (s.step n).text[l.run.textOffset]? = some b →
       ∃ u : State, exec (.characterStart n) s = .next u.settlePort ∧ LineBecomes n s u (sending .script) s.reports) ∧
     (l.ownerInForce = .free → exec (.characterStart n) s = .next s) ∧
     ((l.ownerInForce = .operator ∨ l.ownerInForce = .lent) → l.staging = [] → exec (.characterStart n) s = .next s) ∧
     (l.ownerInForce = .script → (l.run.state ≠ .acting ∨ (s.step n).action ≠ 1 ∨
       (s.step n).textLength.toNat ≤ l.run.textOffset) → exec (.characterStart n) s = .next s)) ∧
  (∀ (n : LineNo) (c : TxChar) (s : State),
     let l := s.line n
     let r := l.run
     let gap := if c.byte = 0x0D then l.settings.lineGap else l.settings.charGap
     let tx : Tx := match l.breaks with
       | b :: _ => .brk b (timerStart b.length)
       | [] => if l.flowHeld then .held else if l.status ≠ .on ∨ c.leftover = true ∨ gap = 0 then .idle
         else .gap (timerStart gap)
     let staged : List Byte := if c.source = .operator then l.staging.tail else l.staging
     let ended : Line := { l with
       tx := tx, breaks := l.breaks.tail, ownerInForce := l.owner
       sent := (if c.source = .operator then l.sent + 1 else l.sent)
       staging := (if (l.ownerInForce = .operator ∨ l.ownerInForce = .lent) ∧ (l.owner = .free ∨ l.owner = .script)
         then [] else staged)
       run := (if c.source = .script then { r with textOffset := r.textOffset + 1 } else r) }
     let reports := if c.source = .nobody ∧ l.ownerInForce = l.owner then s.reports else (s.mark n).reports
     let stays : Prop := ∃ u : State, exec (.characterEnd n) s = .next u.settlePort ∧ LineBecomes n s u ended reports
     l.tx = .sending c →
     (c.source ≠ .script → (r.state ≠ .queued ∨ l.owner ≠ .script) → stays) ∧
     (c.source ≠ .script → r.state = .queued → l.owner = .script → ∃ v : State, LineBecomes n s v ended reports ∧
       exec (.characterEnd n) s = .next (follow n (v, some r.entry)).settlePort) ∧
     (c.source = .script → r.state ≠ .queued → r.textOffset + 1 ≠ (s.step n).textLength.toNat → stays) ∧
     (c.source = .script → r.state ≠ .queued → r.textOffset + 1 = (s.step n).textLength.toNat →
       ∃ v : State, LineBecomes n s v ended reports ∧
         exec (.characterEnd n) s = .next (v.actionEnded n .send none).settlePort)) ∧
  (∀ (n : LineNo) (ticks : Nat) (s : State),
     ((s.line n).tx = .idle ∨ (s.line n).tx = .held ∨ (∃ k, (s.line n).tx = .gap k) → s.txd n ticks = true) ∧
     ((s.line n).tx.isBreak = true → s.txd n ticks = false) ∧
     ∀ c : TxChar, (s.line n).tx = .sending c →
       let w := match c.dataBits with | .seven => 7 | .eight => 8
       let p := match c.parity with | .none => 0 | _ => 1
       let ones := ((List.range w).filter fun k => c.byte.getLsbD k).length
       let bit := ticks / c.period
       (bit = 0 → s.txd n ticks = false) ∧
       (1 ≤ bit → bit ≤ w → s.txd n ticks = c.byte.getLsbD (bit - 1)) ∧
       (bit = w + 1 → c.parity = .even → s.txd n ticks = decide (ones % 2 = 1)) ∧
       (bit = w + 1 → c.parity = .odd → s.txd n ticks = decide (ones % 2 = 0)) ∧
       (w + p < bit → s.txd n ticks = true) ∧
       c.ticks = (1 + w + p + (match c.stopBits with | .one => 1 | .two => 2)) * c.period)

/-- The timers of the transmitter and the output: the end of a gap; the hold limit, which clears the flow hold; the
end of a break, after which a waiting break, HELD or Char Gap follows; the end of a pulse, with OUTPUT_DONE. A break
that a step ordered ends that step's BREAK action, and any pulse's end a PULSE action in progress. -/
def Obligations.LineTimersExpire : Prop :=
  ∀ (n : LineNo) (s : State),
    let l := s.line n
    (∀ k, l.tx = .gap k → timerDue k = true → ∃ u : State, exec (.gapExpiry n) s = .next u.settlePort ∧
      LineBecomes n s u { l with tx := .idle } s.reports) ∧
    (l.flowHeld = true → timerDue l.holdTimer = true → ∃ u : State, exec (.holdLimitExpiry n) s = .next u.settlePort ∧
      LineBecomes n s u { l with
        flowHeld := false, holdTimer := none
        tx := (match l.tx with
          | .held => .idle
          | x => x) } (s.mark n).reports) ∧
    (∀ b k, l.tx = .brk b k → timerDue k = true → b.byStep = false →
      (∀ d rest, l.breaks = d :: rest → ∃ u : State, exec (.breakTimerExpiry n) s = .next u.settlePort ∧
        LineBecomes n s u { l with tx := .brk d (timerStart d.length), breaks := rest } s.reports) ∧
      (l.breaks = [] → ∃ u : State, exec (.breakTimerExpiry n) s = .next u.settlePort ∧
        LineBecomes n s u { l with tx :=
          (if l.flowHeld then .held else if l.settings.charGap = 0 then .idle
            else .gap (timerStart l.settings.charGap)) } s.reports)) ∧
    (∀ b k, l.tx = .brk b k → timerDue k = true → b.byStep = true →
      ∃ v : State, LineBecomes n s v { l with
          breaks := l.breaks.tail
          tx := (match l.breaks with
            | d :: _ => .brk d (timerStart d.length)
            | [] => if l.flowHeld then .held else if l.settings.charGap = 0 then .idle
              else .gap (timerStart l.settings.charGap)) } s.reports ∧
        exec (.breakTimerExpiry n) s = .next (v.actionEnded n .brk none).settlePort) ∧
    (l.out.state = .pulsing → timerDue l.out.timer = true →
      ∃ v : State, LineBecomes n s v { l with out := { l.out with
          state := .rest, time := s.clock.ms, timer := none, ended := .expired } } (s.raise n .outputDone).reports ∧
        exec (.pulseTimerExpiry n) s = .next (v.actionEnded n .pulse none).settlePort) ∧
    (l.out.state = .pulsing → timerDue l.out.timer = true → l.run.state = .idle →
      ∃ u : State, exec (.pulseTimerExpiry n) s = .next u.settlePort ∧
        LineBecomes n s u { l with out := { l.out with
          state := .rest, time := s.clock.ms, timer := none, ended := .expired } } (s.raise n .outputDone).reports)

/-! ## Steps -/

/-- A step timeout in WAITING, the expiry of a QUIET wait and that of an ELAPSE wait end the step by their exit in
that event; where the exit is END c the run ends COMPLETED with code c: the outcome record, one more trail entry of at
most eight, IDLE with its timers stopped, one use of its block fewer, the owner settled by the claim, SCRIPT_ENDED
raised. That the discarded Match Phase reads A is log entry 33; that Text Offset stays is log entry 38. The step
timeout in ACTING and WAITING and the expiries of QUIET and ELAPSE end the step by their exit, whatever its kind. In
ACTING the action is cut first: a break of the step being sent ends at once and one waiting is removed, a
DETECT_RATE's detection is cancelled, and any other action is left as it stands. A step's end by an exit starts the
step that a STEP exit names, in the same event. That a cancelled detection keeps its Verified Count is the model's
choice (log entry 39). -/
def Obligations.ExpiriesEndTheStep : Prop :=
  (∀ (n : LineNo) (cmd : Instr) (exit : TrailExit) (e : StepExit) (s : State),
     let l := s.line n
     let r := l.run
     let st := s.step n
     l.tx.isSending = false →
     r.state = .waiting → e.kind = 1 →
     ((cmd = .stepTimerExpiry n ∧ exit = .timeout ∧ e = st.timedOut ∧ timerDue r.stepTimer = true) ∨
       (cmd = .quietExpiry n ∧ exit = .success ∧ e = st.success ∧ st.wait = 4 ∧ timerDue r.waitTimer = true) ∨
       (cmd = .elapseExpiry n ∧ exit = .success ∧ e = st.success ∧ st.wait = 6 ∧ timerDue r.waitTimer = true)) →
     ∃ u : State, exec cmd s = .next u.settlePort ∧ OnlyLine n s u ∧ u.common = s.common ∧ u.port = s.port ∧
       (u.line n).run = { r with
         state := .idle, stepTimer := none, waitTimer := none, actionResult := none, immediate := 0, phase := .a
         begun := true
         trail := (r.trail ++ ([⟨r.current, exit, s.clock.ms⟩] : List TrailEntry)).drop (r.trail.length + 1 - 8)
         last := some ⟨.completed, e.value, r.current, exit, s.clock.ms⟩ } ∧
       (u.line n).owner = (if l.owner = .script ∨ l.owner = .lent then (if l.claim then .operator else .free)
         else l.owner) ∧
       (u.line n).out = l.out ∧ (u.line n).cap = l.cap ∧ (u.line n).det = l.det ∧ (u.line n).tx = l.tx ∧
       (u.block r.block).useCount = (s.block r.block).useCount - 1 ∧
       u.reports.headerDirty = true ∧ u.reports.dirty.get n = true ∧
       u.reports.held.get n = s.reports.held.get n ||| 0x001) ∧
  (∀ (n : LineNo) (s : State),
     let l := s.line n
     let r := l.run
     let st := s.step n
     let kept := l.breaks.filter fun b => !b.byStep
     let cutBreaks : Line := match l.tx with
       | .brk b _ => if b.byStep = true then { l with
             breaks := kept.tail
             tx := (match kept with
               | d :: _ => .brk d (timerStart d.length)
               | [] => if l.flowHeld then .held else if l.settings.charGap = 0 then .idle
                 else .gap (timerStart l.settings.charGap)) }
           else { l with breaks := kept }
       | _ => { l with breaks := kept }
     (r.state = .waiting → timerDue r.stepTimer = true →
       exec (.stepTimerExpiry n) s = .next (s.exitStep n .timeout).settlePort) ∧
     (r.state = .acting → timerDue r.stepTimer = true → st.action = 2 →
       ∃ v : State, LineBecomes n s v cutBreaks s.reports ∧
         exec (.stepTimerExpiry n) s = .next (v.exitStep n .timeout).settlePort) ∧
     (r.state = .acting → timerDue r.stepTimer = true → st.action = 7 →
       exec (.stepTimerExpiry n) s = .next ((s.cancelDetection n).exitStep n .timeout).settlePort) ∧
     (r.state = .acting → timerDue r.stepTimer = true → st.action ≠ 2 → st.action ≠ 7 →
       exec (.stepTimerExpiry n) s = .next (s.exitStep n .timeout).settlePort) ∧
     (r.state = .waiting → timerDue r.waitTimer = true → st.wait = 4 →
       exec (.quietExpiry n) s = .next (s.exitStep n .success).settlePort) ∧
     (r.state = .waiting → timerDue r.waitTimer = true → st.wait = 6 →
       exec (.elapseExpiry n) s = .next (s.exitStep n .success).settlePort) ∧
     (∀ exit, s.exitStep n exit = follow n (s.endStep n exit false)) ∧
     (l.det.state = .none → s.cancelDetection n = s) ∧
     (l.det.state ≠ .none →
       let u := s.cancelDetection n
       let measuring := l.det.state = .measuring
       u.line n = { l with det := { l.det with
         state := .none, outcome := .cancelled, concluded := s.clock.ms, limit := none, bound := false
         counted := (if measuring then 0 else l.det.counted)
         least := (if measuring then none else l.det.least), meas := ⟨false, false, 0⟩ } } ∧
       n ∉ u.queue ∧ n ∉ u.slots ∧ u.reports.dirty.get n = true ∧ u.reports.held = s.reports.held ∧
       u.common = s.common ∧ u.store = s.store ∧ u.port = s.port))

/-- How a step ends by an exit: the trail takes an entry, of at most eight, and the timers stop. A STEP exit answers
the index of the step to start, unless the Immediate Count is then 64, when the run ends RUNAWAY and no step starts;
an END exit ends the run COMPLETED with its code. That Match Phase is then A and Text Offset stays is the model's
choice (log entries 33 and 38), and so is that an Exit Kind of 2 or more, which no READY block holds, acts as END (log
entry 20). A step starts: Current Step, ACTING, Text Offset 0, Match Phase A, and the Step Timer from the step's
timeout, 0 meaning none and larger values clamped to 600000 ms. A step that an exit or a START names starts in the
same event, and its action begins: where that ends the step at once the next one follows, and where it does not
nothing more follows. So the expiry of a QUIET wait with a Success exit of STEP k leaves the runner WAITING on step k
in that event, where k is a NONE action with a MATCH wait. -/
def Obligations.StepExits : Prop :=
  (∀ (n : LineNo) (exit : TrailExit) (imm : Bool) (s : State),
     let l := s.line n
     let r := l.run
     let e := (s.step n).exit exit
     let count := if imm then r.immediate + 1 else 0
     let p := s.endStep n exit imm
     let trail (x : TrailExit) : List TrailEntry :=
       (r.trail ++ ([⟨r.current, x, s.clock.ms⟩] : List TrailEntry)).drop (r.trail.length + 1 - 8)
     r.state ≠ .queued →
     (e.kind = 0 → count < 64 → p.2 = some e.value.toNat ∧
       LineBecomes n s p.1 { l with
         tx := l.tx.dropScript
         run := { r with stepTimer := none, waitTimer := none, immediate := count, trail := trail exit } }
         (s.mark n).reports) ∧
     (e.kind = 0 → 64 ≤ count → p.2 = none ∧ (p.1.line n).run.state = .idle ∧
       (p.1.line n).run.last = some ⟨.runaway, 0, r.current, .runaway, s.clock.ms⟩ ∧
       (p.1.line n).run.trail = trail .runaway) ∧
     (e.kind ≠ 0 → p.2 = none ∧ OnlyLine n s p.1 ∧ p.1.common = s.common ∧ p.1.port = s.port ∧
       (p.1.line n).run = { r with
         state := .idle, stepTimer := none, waitTimer := none, actionResult := none, immediate := count, phase := .a
         begun := true, trail := trail exit
         last := some ⟨.completed, e.value, r.current, exit, s.clock.ms⟩ } ∧
       (p.1.block r.block).useCount = (s.block r.block).useCount - 1 ∧ p.1.reports.headerDirty = true ∧
       p.1.reports.held.get n = s.reports.held.get n ||| 0x001)) ∧
  (∀ (n : LineNo) (k : Nat) (s : State),
     let r := (s.line n).run
     let st := (s.block r.block).steps.getD k .absent
     LineBecomes n s (s.startStep n k) { s.line n with run := { r with
       state := .acting, current := k, textOffset := 0, actionResult := none, phase := .a, begun := false
       stepTimer := (if st.timeout.toNat = 0 then none else some (min 600000 st.timeout.toNat + 1)) } }
       (s.mark n).reports) ∧
  ((∀ (n : LineNo) (k : Nat) (s : State),
     follow n (s, none) = s ∧ follow n (s, some k) = follow n ((s.startStep n k).beginAct n)) ∧
   ∀ (n : LineNo) (k : StepRecord) (s : State),
     let l := s.line n
     let r := l.run
     let st := s.step n
     r.state = .waiting → timerDue r.waitTimer = true → st.wait = 4 → st.success.kind = 0 →
     (s.block r.block).steps[st.success.value.toNat]? = some k → k.action = 0 → k.wait = 1 →
     ∃ u : State, exec (.quietExpiry n) s = .next u.settlePort ∧ LineBecomes n s u { l with
       tx := l.tx.dropScript, scriptFresh := 0
       run := { r with
         state := .waiting, current := st.success.value.toNat, immediate := 0, textOffset := 0, actionResult := none
         waitTimer := none, phase := .a, begun := true
         stepTimer := (if k.timeout.toNat = 0 then none else some (min 600000 k.timeout.toNat + 1))
         trail := (r.trail ++ ([⟨r.current, .success, s.clock.ms⟩] : List TrailEntry)).drop (r.trail.length + 1 - 8) } }
       (s.mark n).reports)

/-- The actions that complete as they begin. Each has its effect, and the wait is armed: the runner is WAITING with
script freshness 0. A wait that holds at arming, which NONE does, COUNT 0, ELAPSE 0, and MARKING and SPACING in their
condition, ends the step by Success in the same event. NONE and an empty SEND have no effect of their own. The action
of a step just started begins so too; that a row begins it as a command of its own is the model's (log entry 7). -/
def Obligations.ImmediateActions : Prop :=
  ∀ (n : LineNo) (s : State),
    let l := s.line n
    let r := l.run
    let st := s.step n
    let arg := st.actionArg.toNat
    let armed (k : Line) : Line := { k with
      scriptFresh := 0
      run := { k.run with
        state := .waiting, begun := true, actionResult := none
        waitTimer := waitTimerOf (s.wait n) st.waitArg.toNat
        countLeft := if s.wait n = some .count then min 65535 st.waitArg.toNat else r.countLeft } }
    let driven (o : OutputState) : Output := if l.out.state = o then l.out else { l.out with
      state := o, time := s.clock.ms, timer := none, ended := (if l.out.state = .pulsing then .cut else l.out.ended) }
    let completes (cmd : Instr) (k : Line) (q : Reports) : Prop := ∃ u : State, LineBecomes n s u (armed k) q ∧
      (s.waitHolds n = false → exec cmd s = .next u.settlePort ∧ s.beginAct n = (u, none)) ∧
      (s.waitHolds n = true → exec cmd s = .next (follow n (u.endStep n .success true)).settlePort ∧
        s.beginAct n = u.endStep n .success true)
    (s.waitHolds n = true ↔ st.wait = 0 ∨ (st.wait = 5 ∧ st.waitArg = 0) ∨ (st.wait = 6 ∧ st.waitArg = 0) ∨
      (st.wait = 7 ∧ l.condition = .marking) ∨ (st.wait = 8 ∧ l.condition = .spacing)) ∧
    (r.state = .acting → r.begun = false →
      (st.action = 0 → completes (.noneAction n) l (s.mark n).reports) ∧
      (st.action = 1 → st.textLength = 0 → completes (.send n) l (s.mark n).reports) ∧
      (st.action = 4 → s.locked n = false →
        completes (.driveActiveAction n) { l with out := driven .active } (s.mark n).reports) ∧
      (st.action = 5 → s.locked n = false →
        completes (.driveRestAction n) { l with out := driven .rest } (s.mark n).reports) ∧
      (st.action = 6 → completes (.setRate n) { l with period :=
        (if arg = 0 then l.settings.fallback else max 16 (min 131071 arg)) } (s.mark n).reports) ∧
      (st.action = 8 → l.cap.trigger ≠ .frozen → completes (.armTriggerAction n) { l with
        trigFresh := 0
        cap := { l.cap with
          trigger := .armed, pattern := some (Pattern.ofRecord (s.pattern n st.patternA)), post := min 65535 arg
          lead := 0, remaining := 0 } } (s.mark n).reports) ∧
      (st.action = 9 → completes (.signal n)
        { l with run := { r with signalCode := min 255 arg, signalTime := s.clock.ms } } (s.raise n .scriptSignal).reports) ∧
      (st.action = 10 → completes (.loadCounter n) { l with run := { r with counter := min 255 arg } }
        (s.mark n).reports) ∧
      (st.action = 11 → r.counter ≠ 0 → completes (.countDown n) { l with run := { r with counter := r.counter - 1 } }
        (s.mark n).reports))

/-- The actions that take time, as they begin: a SEND of text, which offers its bytes; a BREAK, whose clamped order
starts at once from IDLE, GAP or HELD and waits otherwise; a PULSE on a line not locked, with its clamped width. The
runner stays ACTING. The action of a step just started begins so too; the row as a command of its own: log entry 7.
DETECT_RATE begins: with no detection in progress it starts one that is bound to the step, which is MEASURING at once
when a slot is free and nobody waits, and QUEUED at the tail otherwise; with one in progress it only binds it. The end
of an action in a later event. While the runner is ACTING on it, completion arms the wait, and a wait that holds at
arming ends the step by Success; failure ends the step by Failure with its reason. While the run is PAUSED from ACTING
with no end noted, the end is noted and nothing more. An end that no action in progress waits for does nothing. -/
def Obligations.ActionsThatTakeTime : Prop :=
  (∀ (n : LineNo) (s : State),
     let l := s.line n
     let r := l.run
     let st := s.step n
     let begun (k : Line) : Line := { k with run := { k.run with begun := true } }
     let order : BreakOrder := ⟨max 10 (min 5000 st.actionArg.toNat), true⟩
     r.state = .acting → r.begun = false →
     (st.action = 1 → st.textLength ≠ 0 → ∃ u : State, exec (.send n) s = .next u.settlePort ∧ s.beginAct n = (u, none) ∧
       LineBecomes n s u (begun l) s.reports) ∧
     (st.action = 2 → (l.tx = .idle ∨ l.tx = .held ∨ ∃ k, l.tx = .gap k) →
       ∃ u : State, exec (.breakAction n) s = .next u.settlePort ∧ s.beginAct n = (u, none) ∧
         LineBecomes n s u (begun { l with tx := .brk order (timerStart order.length) }) s.reports) ∧
     (st.action = 2 → (l.tx.isSending = true ∨ l.tx.isBreak = true) →
       ∃ u : State, exec (.breakAction n) s = .next u.settlePort ∧ s.beginAct n = (u, none) ∧
         LineBecomes n s u (begun { l with breaks := l.breaks ++ [order] }) s.reports) ∧
     (st.action = 3 → s.locked n = false → ∃ u : State, exec (.pulseAction n) s = .next u.settlePort ∧ s.beginAct n = (u, none) ∧
       LineBecomes n s u (begun { l with out := { l.out with
         state := .pulsing, time := s.clock.ms, width := max 10 (min 60000 st.actionArg.toNat)
         timer := some (max 10 (min 60000 st.actionArg.toNat) + 1) } }) (s.mark n).reports)) ∧
  (∀ (n : LineNo) (s : State),
     let l := s.line n
     (s.step n).action = 7 → l.run.state = .acting → l.run.begun = false →
     ∃ u : State, exec (.detectRate n) s = .next u.settlePort ∧ s.beginAct n = (u, none) ∧ (u.line n).run = { l.run with begun := true } ∧
       (u.line n).period = l.period ∧ (u.line n).det.bound = true ∧ u.common = s.common ∧
       (l.det.state ≠ .none → (u.line n).det = { l.det with bound := true } ∧ u.queue = s.queue ∧ u.slots = s.slots) ∧
       (l.det.state = .none → (u.line n).det.attempts = 0 ∧ (u.line n).det.rejected = 0 ∧
         (u.line n).det.adoption = .none ∧ (u.line n).det.counted = 0 ∧ (u.line n).det.least = none ∧
         (u.line n).det.limit = timerStart l.settings.detectLimit ∧ (u.line n).det.outcome = l.det.outcome ∧
         u.reports.dirty.get n = true ∧
         (s.slots.length < 4 → s.queue = [] →
           u.slots = s.slots ++ [n] ∧ u.queue = [] ∧ (u.line n).det.state = .measuring) ∧
         (4 ≤ s.slots.length →
           u.slots = s.slots ∧ u.queue = s.queue ++ [n] ∧ (u.line n).det.state = .queued))) ∧
  (∀ (n : LineNo) (a : Action) (why : FailureReason) (s : State),
     let l := s.line n
     let r := l.run
     let armed : Line := { l with
       scriptFresh := 0
       run := { r with
         state := .waiting, actionResult := none
         waitTimer := waitTimerOf (s.wait n) (s.step n).waitArg.toNat
         countLeft := if s.wait n = some .count then min 65535 (s.step n).waitArg.toNat else r.countLeft } }
     (r.state = .acting → r.begun = true → s.action n = some a →
       (∃ v : State, LineBecomes n s v armed (s.mark n).reports ∧
         (s.waitHolds n = false → s.actionEnded n a none = v) ∧
         (s.waitHolds n = true → s.actionEnded n a none = v.exitStep n .success)) ∧
       ∃ v : State, LineBecomes n s v { l with run := { r with failure := why } } s.reports ∧
         s.actionEnded n a (some why) = v.exitStep n .failure) ∧
     (r.state = .paused .acting → r.actionResult = none → r.begun = true → s.action n = some a →
       LineBecomes n s (s.actionEnded n a none) { l with run := { r with actionResult := some .completed } }
         (s.mark n).reports ∧
       LineBecomes n s (s.actionEnded n a (some why))
         { l with run := { r with actionResult := some .failed, failure := why } } (s.mark n).reports) ∧
     ((r.state ≠ .acting ∧ r.state ≠ .paused .acting ∨ r.begun = false ∨ s.action n ≠ some a ∨
       r.state = .paused .acting ∧ r.actionResult ≠ none) →
       s.actionEnded n a none = s ∧ s.actionEnded n a (some why) = s))

/-- The actions that fail as they begin: PULSE, DRIVE_ACTIVE and DRIVE_REST on a line in the Lock Set (LOCKED),
COUNT_DOWN at 0 (COUNTER_ZERO), ARM_TRIGGER on a FROZEN trigger (FROZEN). The step takes its Failure exit in that
event; with END c the run ends COMPLETED with code c and exit FAILURE. The output, the trigger and the counter are as
they were. The action of a step just started fails so too; the row as a command of its own: log entry 7. -/
def Obligations.FailingActions : Prop :=
  ∀ (n : LineNo) (cmd : Instr) (why : FailureReason) (s : State),
    let l := s.line n
    let r := l.run
    let st := s.step n
    r.state = .acting → r.begun = false →
    ((cmd = .pulseAction n ∧ st.action = 3 ∧ s.locked n = true ∧ why = .locked) ∨
      (cmd = .driveActiveAction n ∧ st.action = 4 ∧ s.locked n = true ∧ why = .locked) ∨
      (cmd = .driveRestAction n ∧ st.action = 5 ∧ s.locked n = true ∧ why = .locked) ∨
      (cmd = .countDown n ∧ st.action = 11 ∧ r.counter = 0 ∧ why = .counterZero) ∨
      (cmd = .armTriggerAction n ∧ st.action = 8 ∧ l.cap.trigger = .frozen ∧ why = .frozen)) →
    (∃ v : State, LineBecomes n s v { l with run := { r with begun := true, failure := why } } s.reports ∧
      exec cmd s = .next (follow n (v.endStep n .failure true)).settlePort ∧
      s.beginAct n = v.endStep n .failure true) ∧
    (st.failure.kind = 1 → ∃ u : State, exec cmd s = .next u.settlePort ∧ OnlyLine n s u ∧ u.common = s.common ∧
      (u.line n).out = l.out ∧ (u.line n).cap = l.cap ∧ (u.line n).run.counter = r.counter ∧
      (u.line n).run.failure = why ∧ (u.line n).run.state = .idle ∧
      (u.line n).run.last = some ⟨.completed, st.failure.value, r.current, .failure, s.clock.ms⟩ ∧
      u.reports.held.get n = s.reports.held.get n ||| 0x001)

/-! ## The station and its requests -/

/-- The header read of a sweep completes: the Sweep Interval is clamped and taken, the masks are taken, Sweep Position
moves to line 0, the sweep timer keeps its length; an unset station tag is adopted, a tag taken before or a request
met by a busy Loader changes nothing more, and a new unknown code is refused with STATION_REQUEST_TAKEN. A new LOAD or
UNLOAD has then the effect of its own command. The read left over from a sweep that a stop has abandoned is discarded.
The host section of the header: nine little-endian words from offset 0. -/
def Obligations.HeaderReadCompletes : Prop :=
  (∀ (bs : List Byte) (t : Transaction) (s : State), bs.length = 128 → s.port.inFlight = some t →
     t.job = .sweepHeader →
     let h := headerHostOf bs
     let i := max 1 (min 1000 h.interval.toNat)
     let port := { s.port with inFlight := none, tenure := s.port.tenure + 1 }
     let taken : State := { s with
       port := port
       scan := { s.scan with interval := i, position := some (.line 0) }
       notices := { s.notices with lineMask := h.lineMask.truncate 12, stationMask := h.stationMask.truncate 4 }
       reports := { s.reports with headerDirty := s.reports.headerDirty || s.scan.interval != i } }
     (t.stale = true → exec (.headerReadComplete bs) s = .next ({ s with port := port } : State).settlePort) ∧
     (t.stale = false →
       (s.scan.tag = none → exec (.headerReadComplete bs) s = .next ({ taken with
         scan := { taken.scan with tag := some h.tag, result := .none }
         reports := { taken.reports with headerDirty := true } } : State).settlePort) ∧
       ((s.scan.tag = some h.tag ∨ s.scan.tag ≠ none ∧ s.store.loader.isSome = true) →
         exec (.headerReadComplete bs) s = .next taken.settlePort) ∧
       (s.scan.tag ≠ none → s.scan.tag ≠ some h.tag → s.store.loader = none →
         (h.code ≠ 1 → h.code ≠ 2 → exec (.headerReadComplete bs) s = .next ({ taken with
           scan := { taken.scan with tag := some h.tag, result := .unknownCode }
           reports := { taken.reports with
             headerDirty := true, heldStation := s.reports.heldStation ||| 0x1 } } : State).settlePort) ∧
         (s.ctl.part = .running → s.port.flag = false →
           (h.code = 1 →
             exec (.headerReadComplete bs) s = exec (.loadRequest h.tag h.blockIndex h.source) taken) ∧
           (h.code = 2 → exec (.headerReadComplete bs) s = exec (.unloadRequest h.tag h.blockIndex) taken))))) ∧
  (∀ bs : List Byte, headerHostOf bs = {
     linesInUse := wordAt bs 0, lock := wordAt bs 4, interval := wordAt bs 8, lineMask := wordAt bs 12
     stationMask := wordAt bs 16, tag := wordAt bs 20, code := wordAt bs 24, blockIndex := wordAt bs 28
     source := wordAt bs 32 })

/-- A taken LOAD, judged by the first test that applies: BAD_BLOCK, BAD_ADDRESS, IN_USE, ACCEPTED. Accepted, the block
is LOADING with its counts 0 and its records gone, and the Loader starts at transaction 0 with Running Sum 0. That its
remembered counts and checksum are 0 until transaction 0 brings them is the model's choice (log entry 43). In every
case the tag and the result are recorded, the header is dirty and STATION_REQUEST_TAKEN is raised. That a taken
request is a command of its own while the part is RUNNING and the Loader idle is the model's (log 8). While the fault
flag is set the Loader takes no new load. -/
def Obligations.LoadRequest : Prop :=
  ∀ (tag block source : Word) (s : State), s.ctl.part = .running → s.store.loader = none →
    (s.port.flag = true → exec (.loadRequest tag block source) s = .next s) ∧
    (s.port.flag = false →
    ∃ u : State, exec (.loadRequest tag block source) s = .next u.settlePort ∧ u.lines = s.lines ∧
      u.scan = { s.scan with tag := some tag, result := u.scan.result } ∧
      u.reports = { s.reports with headerDirty := true, heldStation := s.reports.heldStation ||| 0x1 } ∧
      (16 ≤ block.toNat → u.scan.result = .badBlock ∧ u.store = s.store) ∧
      ∀ h : block.toNat < 16,
        let b : BlockNo := ⟨block.toNat, h⟩
        (source.toNat % 64 ≠ 0 → u.scan.result = .badAddress ∧ u.store = s.store) ∧
        (source.toNat % 64 = 0 → (s.block b).useCount ≠ 0 → u.scan.result = .inUse ∧ u.store = s.store) ∧
        (source.toNat % 64 = 0 → (s.block b).useCount = 0 → u.scan.result = .accepted ∧
          u.block b = { s.block b with
            state := .loading, stepCount := 0, patternCount := 0, steps := [], patterns := [] } ∧
          (∀ c, c ≠ b → u.block c = s.block c) ∧ u.store.loader = some ⟨b, source, 0, 0, 0, 0⟩ ∧
          u.store.sum = 0))

/-- A taken UNLOAD: an accepted one makes the block EMPTY with counts 0 and marks the header dirty, also when it was
EMPTY already; it leaves the Loader idle. A block in use is refused with IN_USE and a block index of 16 or more with
BAD_BLOCK, and the store is as it was. -/
def Obligations.UnloadRequest : Prop :=
  ∀ (tag block : Word) (s : State), s.ctl.part = .running → s.store.loader = none → s.port.flag = false →
    ∃ u : State, exec (.unloadRequest tag block) s = .next u.settlePort ∧ u.lines = s.lines ∧ u.port = s.port ∧
      u.scan = { s.scan with tag := some tag, result := u.scan.result } ∧
      u.reports = { s.reports with headerDirty := true, heldStation := s.reports.heldStation ||| 0x1 } ∧
      u.store.loader = none ∧
      (16 ≤ block.toNat → u.scan.result = .badBlock ∧ u.store = s.store) ∧
      ∀ h : block.toNat < 16,
        let b : BlockNo := ⟨block.toNat, h⟩
        ((s.block b).useCount ≠ 0 → u.scan.result = .inUse ∧ u.store = s.store) ∧
        ((s.block b).useCount = 0 → u.scan.result = .accepted ∧ (u.block b).state = .empty ∧
          (u.block b).stepCount = 0 ∧ (u.block b).patternCount = 0 ∧ (u.block b).steps = [] ∧
          ∀ c, c ≠ b → u.block c = s.block c)

/-- A code that names no request is refused with UNKNOWN_CODE: of the station, and of a line in use; nothing but the
record of the request changes. The request slot of a record: an unset tag is adopted with result NONE, a tag taken
before does nothing, and a new one is judged by its code, with the effect of that request's own command. The sweep
then moves to the next line in use, or ends. -/
def Obligations.UnknownCodes : Prop :=
  (∀ (tag code : Word) (s : State), s.ctl.part = .running →
     (s.store.loader = none → s.port.flag = false → code ≠ 1 → code ≠ 2 →
       ∃ u : State, exec (.unknownStationCode tag code) s = .next u.settlePort ∧
         u = { s with
           scan := { s.scan with tag := some tag, result := .unknownCode }
           reports := { s.reports with headerDirty := true, heldStation := s.reports.heldStation ||| 0x1 } }) ∧
     ∀ n : LineNo, n.val < s.linesInUse → (code.toNat = 0 ∨ 13 < code.toNat) →
       ∃ u : State, exec (.unknownCodeRequest n tag code) s = .next u.settlePort ∧
         LineBecomes n s u { s.line n with takenTag := some tag, result := .unknownCode } (s.raise n .requestTaken).reports) ∧
  (∀ (n : LineNo) (h : LineHost) (s : State),
     let l := s.line n
     (l.takenTag = none → LineBecomes n s (s.examineSlot n h) { l with takenTag := some h.tag, result := .none }
       (s.mark n).reports) ∧
     (l.takenTag = some h.tag → s.examineSlot n h = s) ∧
     (∀ tag, l.takenTag = some tag → tag ≠ h.tag → s.ctl.part = .running → n.val < s.linesInUse →
       let done := Host.Outcome.next (s.examineSlot n h).settlePort
       let code := h.code.toNat
       (code = 1 → exec (.startRequest n h.tag h.argA h.argB) s = done) ∧
       (code = 2 → exec (.pauseRequest n h.tag) s = done) ∧
       (code = 3 → exec (.resumeRequest n h.tag) s = done) ∧
       (code = 4 → exec (.abortRequest n h.tag) s = done) ∧
       (code = 5 → exec (.breakRequest n h.tag h.argA) s = done) ∧
       (code = 6 → exec (.pulseRequest n h.tag h.argA) s = done) ∧
       (code = 7 → exec (.driveActiveRequest n h.tag) s = done) ∧
       (code = 8 → exec (.driveRestRequest n h.tag) s = done) ∧
       (code = 9 → exec (.applyRequest n h.tag h) s = done) ∧
       (code = 10 → exec (.detectRequest n h.tag) s = done) ∧
       (code = 11 → exec (.armTriggerRequest n h.tag h.argA h.trigger) s = done) ∧
       (code = 12 → exec (.disarmRequest n h.tag) s = done) ∧
       (code = 13 → exec (.thawRequest n h.tag) s = done) ∧
       ((code = 0 ∨ 13 < code) → exec (.unknownCodeRequest n h.tag h.code) s = done)) ∧
     (∀ k : n.val + 1 < 32, n.val + 1 < s.linesInUse →
       s.sweepOn n = { s with scan := { s.scan with position := some (.line ⟨n.val + 1, k⟩) } }) ∧
     ((s.linesInUse ≤ n.val + 1 ∨ n.val = 31) → s.sweepOn n = { s with
       reports := { s.reports with headerDirty := true }
       scan := (if s.scan.pending = true ∧ s.ctl.part = .running ∧ s.port.flag = false then
         { s.scan with pending := false, position := some .header, lastTime := s.clock.ms }
         else { s.scan with position := none, lastTime := s.clock.ms }) }))

/-! ## A line and its requests -/

/-- The read of an OFF line's record with Enable 0 completes: Claim is taken and held without effect, the Taken and
the Fill are not applied, an unset tag is adopted with result NONE and a tag taken before changes nothing; Sweep
Position moves to the next line in use, and after the last one the sweep ends: Last Sweep Time is stamped, the header
is dirty, and a pending sweep starts. The read of a line's record completes, and its host section is acted on in
order: Enable; Taken, on a line that is ON or drains; Fill; Claim, which acts on Owner as if it had just become set
where the line went ON; the request slot; and the sweep moves on. That a CONFIG_BAD line which drains is handed Taken
is log entry 16. What each part of a record does to a line. Taken: in HOLD one further than the ring behind Head
counts as a full ring, Tail follows it unless FROZEN, and Half Reached is judged; in ROLL it is taken as it stands,
and Lapped is judged. Fill, on an ON line: one behind Sent, or more than a ring ahead, counts as Sent; staged bytes
past it are dropped, but not one being sent. Claim: taken in every status, and acted on by an ON line where it changed
or the line went ON with it set. The report is dirty for a change that it shows. The host section of a line record,
byte by byte: words are little-endian, and the trigger pattern is a pattern record at offset 88. In a pattern record
Length is byte 0, Fold Case byte 1, Line Start byte 2, the Wildcard Set the word at 4, and the 24 characters begin at
byte 8. The enumerated settings of a host section by their codes, each with a code of its own or no format at all;
Settings Clamped is whether one of the eight numeric settings lies outside its range. -/
def Obligations.OffLineRecordRead : Prop :=
  (∀ (n : LineNo) (bs : List Byte) (t : Transaction) (s : State), bs.length = 128 → s.port.inFlight = some t →
     t.job = .sweepLine n → t.stale = false →
     let l := s.line n
     let h := lineHostOf bs
     let claim := h.claim != 0
     l.status = .off → h.enable = 0 → l.cap.draining = false → (l.takenTag = none ∨ l.takenTag = some h.tag) →
     ∃ u : State, exec (.lineRecordReadComplete bs) s = .next u.settlePort ∧ OnlyLine n s u ∧
       u.line n = { l with
         claim := claim, claimSeen := claim, takenTag := some h.tag
         result := (if l.takenTag = none then .none else l.result) } ∧
       u.store = s.store ∧ u.ctl = s.ctl ∧ u.lockSet = s.lockSet ∧ u.linesInUse = s.linesInUse ∧ u.notices = s.notices ∧
       u.port = { s.port with inFlight := none, tenure := s.port.tenure + 1 } ∧
       (l.claimSeen ≠ claim → u.reports.dirty.get n = true) ∧
       (∀ k : n.val + 1 < 32, n.val + 1 < s.linesInUse →
         u.scan = { s.scan with position := some (.line ⟨n.val + 1, k⟩) }) ∧
       (s.linesInUse ≤ n.val + 1 → u.scan.lastTime = s.clock.ms ∧ u.reports.headerDirty = true ∧
         (s.scan.pending = false → u.scan.position = none) ∧
         (s.scan.pending = true → s.ctl.part = .running → s.port.flag = false →
           u.scan.position = some .header ∧ u.scan.pending = false))) ∧
  (∀ (n : LineNo) (bs : List Byte) (t : Transaction) (s : State), bs.length = 128 → s.port.inFlight = some t →
     t.job = .sweepLine n →
     let done : State := { s with port := { s.port with inFlight := none, tenure := s.port.tenure + 1 } }
     let h := lineHostOf bs
     let v := done.applyEnable n h
     let on := (v.line n).status = .on
     let w := if on ∨ (v.line n).cap.draining = true then v.applyTaken n h.taken else v
     let x := (w.applyFill n h.fill).applyClaim n (h.claim != 0) (decide (on ∧ (s.line n).status ≠ .on))
     (t.stale = true → exec (.lineRecordReadComplete bs) s = .next done.settlePort) ∧
     (t.stale = false → exec (.lineRecordReadComplete bs) s = .next ((x.examineSlot n h).sweepOn n).settlePort)) ∧
  (∀ (n : LineNo) (v : Word) (claim wentOn : Bool) (s : State),
     let l := s.line n
     let c := l.cap
     let size := l.settings.captureSize
     let taken := if dist v c.head ≤ size then v else c.head - BitVec.ofNat 32 size
     let hold : Capture := { c with
       taken := taken, tail := (if c.trigger = .frozen then c.tail else taken)
       half := decide (size / 2 ≤ dist taken c.head) }
     let roll : Capture := { c with taken := v, lapped := decide (dist c.tail c.head < dist v c.head) }
     let changed (k : Capture) : State := if k = c then s else s.mark n
     let far := l.settings.outboundSize < dist l.sent v
     let inProgress := match l.tx with
       | .sending k => if k.source = .operator then 1 else 0
       | _ => 0
     let filled : Line := { l with
       fillSeen := (if far then l.sent else v)
       staging := l.staging.take (max (if far then 0 else dist l.sent v) inProgress) }
     let claimed : Line := { l with claim := claim, claimSeen := claim }
     let acts := l.status = .on ∧ (l.claim ≠ claim ∨ (wentOn = true ∧ claim = true))
     (l.settings.captureMode = .hold → LineBecomes n s (s.applyTaken n v) { l with cap := hold }
       (if c.half = false ∧ hold.half = true then s.raise n .captureHalf else changed hold).reports) ∧
     (l.settings.captureMode = .roll → LineBecomes n s (s.applyTaken n v) { l with cap := roll }
       (if c.lapped = false ∧ roll.lapped = true then s.raise n .captureLapped else changed roll).reports) ∧
     (l.status = .on → LineBecomes n s (s.applyFill n v) filled
       (if filled.fillSeen = l.fillSeen then s else s.mark n).reports) ∧
     (l.status ≠ .on → s.applyFill n v = s) ∧
     ∃ w : State, LineBecomes n s w claimed (if l.claimSeen = claim then s else s.mark n).reports ∧
       (∀ o, acts → claimOwner l.owner claim l.run.state = some o → s.applyClaim n claim wentOn = w.giveOwner n o) ∧
       ((¬ acts ∨ claimOwner l.owner claim l.run.state = none) → s.applyClaim n claim wentOn = w)) ∧
  ((∀ (bs : List Byte) (k : Nat),
     let byte (i : Nat) : Nat := (bs.getD i 0).toNat
     byteAt bs k = bs.getD k 0 ∧
     (wordAt bs k).toNat = byte k + 2 ^ 8 * byte (k + 1) + 2 ^ 16 * byte (k + 2) + 2 ^ 24 * byte (k + 3) ∧
     patternAt bs k = ⟨byteAt bs k, byteAt bs (k + 1), byteAt bs (k + 2), wordAt bs (k + 4),
       (bs.drop (k + 8)).take 24⟩) ∧
   ∀ bs : List Byte, lineHostOf bs = {
     enable := wordAt bs 0, taken := wordAt bs 4, fill := wordAt bs 8, claim := wordAt bs 12
     tag := wordAt bs 16, code := wordAt bs 20, argA := wordAt bs 24, argB := wordAt bs 28
     captureBase := wordAt bs 32, captureSize := wordAt bs 36, outboundBase := wordAt bs 40
     outboundSize := wordAt bs 44, bitPeriod := wordAt bs 48, fallback := wordAt bs 52
     detectLimit := wordAt bs 56, holdLimit := wordAt bs 60, tolerance := wordAt bs 64
     charGap := wordAt bs 68, lineGap := wordAt bs 72, absentTime := wordAt bs 76
     dataBits := byteAt bs 80, parity := byteAt bs 81, stopBits := byteAt bs 82, rateMode := byteAt bs 83
     flow := byteAt bs 84, rawAllowed := byteAt bs 85, captureMode := byteAt bs 86
     trigger := patternAt bs 88 }) ∧
  (∀ (h : LineHost) (f : Format),
     let outside (v lo hi : Nat) : Prop := v < lo ∨ hi < v
     (formatOf h = some f ↔
       h.dataBits = (match f.dataBits with | .seven => 7 | .eight => 8) ∧
       h.parity = (match f.parity with | .none => 0 | .even => 1 | .odd => 2) ∧
       h.stopBits = (match f.stopBits with | .one => 1 | .two => 2) ∧
       h.rateMode = (match f.rateMode with | .fixed => 0 | .detectOnEnable => 1) ∧
       h.flow = (match f.flow with | .none => 0 | .xonxoff => 1) ∧
       h.captureMode = (match f.captureMode with | .hold => 0 | .roll => 1)) ∧
     (anyClamped h = true ↔
       outside h.bitPeriod.toNat 16 131071 ∨ outside h.fallback.toNat 16 131071 ∨ outside h.tolerance.toNat 5 100 ∨
       outside h.detectLimit.toNat 1000 120000 ∨ outside h.holdLimit.toNat 0 60000 ∨ outside h.charGap.toNat 0 255 ∨
       outside h.lineGap.toNat 0 2000 ∨ outside h.absentTime.toNat 100 10000) ∧
     (validate h = .ok f ↔ formatOf h = some f ∧ captureRingOk h = true ∧ outboundRingOk h = true))

/-- The checks at an enable, in their order: format, capture ring, outbound ring; a line that fails goes from OFF to
CONFIG_BAD with that check's Refusal and LINE_REFUSED, and its settings stay. A line that is CONFIG_BAD: read with
Enable 0 it is OFF with Refusal NONE; read with Enable set it is checked again, and one that fails stays CONFIG_BAD
with the check's Refusal, its report dirty if the Refusal changed, and no cause. An OFF line read with Enable 0 stays
as it is, and so does an ON line read with Enable set. A line goes ON with Rate Mode FIXED: the settings are loaded,
the numbers clamped and Settings Clamped judged, P is the clamped Bit Period, the counts start at the Taken and the
Fill just read, the garble count, Dropped, history and freshness are cleared, the owner is FREE and the staging empty,
the hold is clear, the condition follows RXD; a character in progress is left over and counts for nobody, and the
line's capture write in flight will change nothing; the trail and the last outcome stay; no cause is raised. That the
detection record stays is log entry 37. A line goes ON with Rate Mode DETECT_ON_ENABLE: P is the clamped Fallback
Period and a detection starts in the same event that no step waits for, MEASURING at once when a slot is free and
nobody waits, and QUEUED at the tail when no slot is free. An ON line read with Enable 0 goes OFF: its run ends
LINE_OFF, its detection is cancelled, its trigger is OFF, its output at REST, its owner FREE and its staging empty; a
character in progress runs on and anything else on the transmitter ends, and the bytes of its fetch in flight will be
discarded. The FIFO is settled: ROLL keeps all of it, HOLD what the room admits, and in any case what a capture write
in flight carries (log entry 15); the rest is Dropped with DATA_DROPPED, and the line drains what it keeps. That Post
Count stays as the trigger goes OFF is the model's choice (log entry 41). -/
def Obligations.LineEnabled : Prop :=
  (∀ (n : LineNo) (h : LineHost) (s : State), (s.line n).status = .off → h.enable ≠ 0 →
     let l := s.line n
     let refused (r : LineRefusal) : Prop :=
       LineBecomes n s (s.applyEnable n h) { l with status := .configBad, refusal := r } (s.raise n .lineRefused).reports
     let formatOk := (h.dataBits = 7 ∨ h.dataBits = 8) ∧ (h.stopBits = 1 ∨ h.stopBits = 2) ∧
       h.parity.toNat < 3 ∧ h.rateMode.toNat < 2 ∧ h.flow.toNat < 2 ∧ h.captureMode.toNat < 2
     let captureOk := (∃ k, 10 ≤ k ∧ k ≤ 20 ∧ h.captureSize.toNat = 2 ^ k) ∧ h.captureBase.toNat % 128 = 0
     let outboundOk := (∃ k, 6 ≤ k ∧ k ≤ 12 ∧ h.outboundSize.toNat = 2 ^ k) ∧ h.outboundBase.toNat % 64 = 0
     (¬ formatOk → refused .format) ∧
     (formatOk → ¬ captureOk → refused .captureRing) ∧
     (formatOk → captureOk → ¬ outboundOk → refused .outboundRing) ∧
     (formatOk → captureOk → outboundOk → ((s.applyEnable n h).line n).status = .on)) ∧
  (∀ (n : LineNo) (h : LineHost) (s : State),
     let l := s.line n
     (l.status = .configBad → h.enable = 0 →
       LineBecomes n s (s.applyEnable n h) { l with status := .off, refusal := .none } (s.mark n).reports) ∧
     (∀ r, l.status = .configBad → h.enable ≠ 0 → validate h = .error r →
       LineBecomes n s (s.applyEnable n h) { l with refusal := r }
         (if r = l.refusal then s else s.mark n).reports) ∧
     (∀ f, l.status = .configBad → h.enable ≠ 0 → validate h = .ok f → ((s.applyEnable n h).line n).status = .on) ∧
     ((l.status = .off ∧ h.enable = 0 ∨ l.status = .on ∧ h.enable ≠ 0) → s.applyEnable n h = s)) ∧
  (∀ (n : LineNo) (h : LineHost) (f : Format) (s : State), (s.line n).status ≠ .on → h.enable ≠ 0 →
     validate h = .ok f → f.rateMode = .fixed →
     let l := s.line n
     let u := s.applyEnable n h
     let k := u.line n
     OnlyLine n s u ∧ u.common = s.common ∧ u.reports = (s.mark n).reports ∧ k.status = .on ∧ k.refusal = .none ∧
       k.period = max 16 (min 131071 h.bitPeriod.toNat) ∧ k.settings.bitPeriod = max 16 (min 131071 h.bitPeriod.toNat) ∧
       k.settings.fallback = max 16 (min 131071 h.fallback.toNat) ∧
       k.settings.tolerance = max 5 (min 100 h.tolerance.toNat) ∧
       k.settings.detectLimit = max 1000 (min 120000 h.detectLimit.toNat) ∧
       k.settings.holdLimit = min 60000 h.holdLimit.toNat ∧ k.settings.charGap = min 255 h.charGap.toNat ∧
       k.settings.lineGap = min 2000 h.lineGap.toNat ∧ k.settings.absentTime = max 100 (min 10000 h.absentTime.toNat) ∧
       k.settings.captureBase = h.captureBase ∧ k.settings.captureSize = h.captureSize.toNat ∧
       k.settings.outboundBase = h.outboundBase ∧ k.settings.outboundSize = h.outboundSize.toNat ∧
       k.settings.flow = f.flow ∧ k.settings.dataBits = f.dataBits ∧ k.settings.parity = f.parity ∧
       k.settings.stopBits = f.stopBits ∧ k.settings.captureMode = f.captureMode ∧
       k.settings.rateMode = .fixed ∧ k.settings.rawAllowed = (h.rawAllowed != 0) ∧ k.clamped = anyClamped h ∧
       k.cap.head = h.taken ∧ k.cap.tail = h.taken ∧ k.cap.taken = h.taken ∧ k.cap.fifo = [] ∧ k.cap.dropped = 0 ∧
       k.cap.trigger = .off ∧ k.cap.draining = false ∧ k.cap.half = false ∧ k.cap.lapped = false ∧
       k.cap.matchTime = l.cap.matchTime ∧ k.sent = h.fill ∧ k.fillSeen = h.fill ∧ k.garble = 0 ∧ k.history = [] ∧
       k.scriptFresh = 0 ∧ k.trigFresh = 0 ∧ k.owner = .free ∧ k.ownerInForce = .free ∧ k.staging = [] ∧
       k.flowHeld = false ∧ k.frame = none ∧ k.condition = (if l.rxd then .marking else .spacing) ∧
       k.run = l.run ∧ k.out = l.out ∧ k.det = l.det ∧ k.breakTime = l.breakTime ∧
       (l.tx.isSending = false → k.tx = .idle) ∧
       (∀ c, l.tx = .sending c → k.tx = .sending { c with source := .nobody, leftover := true }) ∧
       k.breaks = [] ∧ k.holdTimer = none ∧ k.absentTimer = none ∧ k.markTimer = none ∧ k.lowRun = false ∧
       u.store = s.store ∧ u.queue = s.queue ∧ u.slots = s.slots ∧ u.port = { s.port with inFlight := u.port.inFlight } ∧
       (s.port.inFlight = none → u.port.inFlight = none) ∧
       ∀ t, s.port.inFlight = some t →
         u.port.inFlight = some (if t.job = .capture n then { t with stale := true } else t)) ∧
  (∀ (n : LineNo) (h : LineHost) (f : Format) (s : State), (s.line n).status ≠ .on → h.enable ≠ 0 →
     validate h = .ok f → f.rateMode = .detectOnEnable →
     let u := s.applyEnable n h
     let k := u.line n
     k.status = .on ∧ k.settings.rateMode = .detectOnEnable ∧ k.period = max 16 (min 131071 h.fallback.toNat) ∧
       k.det.attempts = 0 ∧ k.det.rejected = 0 ∧ k.det.counted = 0 ∧ k.det.least = none ∧ k.det.adoption = .none ∧
       k.det.verified = 0 ∧ k.det.bound = false ∧ k.det.measured = (s.line n).det.measured ∧
       k.det.limit = timerStart (max 1000 (min 120000 h.detectLimit.toNat)) ∧ u.reports.dirty.get n = true ∧
       u.reports.held = s.reports.held ∧ u.common = s.common ∧ k.clamped = anyClamped h ∧
       (∀ t, s.port.inFlight = some t →
         u.port.inFlight = some (if t.job = .capture n then { t with stale := true } else t)) ∧
       (s.slots.length < 4 → s.queue = [] → u.slots = s.slots ++ [n] ∧ u.queue = [] ∧ k.det.state = .measuring) ∧
       (4 ≤ s.slots.length → u.slots = s.slots ∧ u.queue = s.queue ++ [n] ∧ k.det.state = .queued)) ∧
  (∀ (n : LineNo) (h : LineHost) (s : State), (s.line n).status = .on → h.enable = 0 →
     let l := s.line n
     let r := l.run
     let u := s.applyEnable n h
     let k := u.line n
     let c := l.cap
     let carried := match s.port.inFlight with
       | some t => if t.job = .capture n ∧ t.stale = false then t.length else 0
       | none => 0
     let kept := match l.settings.captureMode with
       | .roll => c.fifo
       | .hold => c.fifo.take (max (l.settings.captureSize - dist c.taken c.head) carried)
     let lost := c.fifo.length - kept.length
     k.status = .off ∧ k.refusal = .none ∧ k.settings = l.settings ∧ k.period = l.period ∧ k.frame = none ∧
       (l.tx.isSending = false → k.tx = .idle) ∧
       (∀ b, l.tx = .sending b → k.tx = .sending (if b.source = .script ∧ r.state ≠ .idle then { b with source := .nobody }
         else b)) ∧
       k.breaks = [] ∧ k.flowHeld = false ∧ k.owner = .free ∧ k.staging = [] ∧ k.sent = l.sent ∧
       k.out.state = .rest ∧ k.det.state = .none ∧ (l.det.state ≠ .none → k.det.outcome = .cancelled) ∧
       k.run.state = .idle ∧ (r.state = .idle → k.run = r) ∧
       (r.state ≠ .idle → k.run.last =
         some ⟨.lineOff, 0, if r.state = .queued then r.entry else r.current, .endedByLineOff, s.clock.ms⟩) ∧
       k.cap = { c with
         trigger := .off, pattern := none, lead := 0, remaining := 0
         tail := (if l.settings.captureMode = .hold then c.taken else c.tail), fifo := kept
         dropped := min 4294967295 (c.dropped + lost), draining := !kept.isEmpty } ∧
       (0 < lost → (u.reports.held.get n).getLsbD 9 = true) ∧ u.reports.dirty.get n = true ∧ u.common = s.common ∧
       (l.det.state ≠ .none → n ∉ u.queue ∧ n ∉ u.slots) ∧
       u.port = { s.port with inFlight := u.port.inFlight } ∧ (s.port.inFlight = none → u.port.inFlight = none) ∧
       (∀ t, s.port.inFlight = some t →
         u.port.inFlight = some (if t.job = .fetch n then { t with stale := true } else t)) ∧
       ∀ m : LineNo, m ≠ n → (u.line m).SameButDetection (s.line m))

/-- A taken START, judged by the first test that applies: NOT_IDLE, BLOCK_NOT_READY, STEP_RANGE, LINE_OFF. A refused
one changes nothing but the record of the request. Accepted on a line the operator holds, the runner is QUEUED with a
Counter of 0 and an empty trail, the block has one use more, and the operator keeps the line. On a FREE line with no
character in progress, an accepted START makes the owner SCRIPT and starts the entry step in the same event: where
that step is a NONE action with a wait that does not hold at arming (a match wait, QUIET, COUNT or ELAPSE of an
argument other than 0, MARKING in SPACING or SPACING in MARKING), the runner is WAITING on it with the step timeout
running from the start, the Wait Timer of QUIET or ELAPSE running, and the Count Remaining of COUNT set. -/
def Obligations.StartRequest : Prop :=
  (∀ (n : LineNo) (tag block entry : Word) (s : State), s.ctl.part = .running → n.val < s.linesInUse →
     let l := s.line n
     let refused (r : ReqResult) : Prop := ∃ u : State, exec (.startRequest n tag block entry) s = .next u.settlePort ∧
       LineBecomes n s u { l with takenTag := some tag, result := r } (s.raise n .requestTaken).reports
     (l.run.state ≠ .idle → refused .notIdle) ∧
     (l.run.state = .idle → 16 ≤ block.toNat → refused .blockNotReady) ∧
     ∀ h : block.toNat < 16,
       let b : BlockNo := ⟨block.toNat, h⟩
       l.run.state = .idle →
       ((s.block b).state ≠ .ready → refused .blockNotReady) ∧
       ((s.block b).state = .ready → (s.block b).stepCount ≤ entry.toNat → refused .stepRange) ∧
       ((s.block b).state = .ready → entry.toNat < (s.block b).stepCount → l.status ≠ .on → refused .lineOff) ∧
       ((s.block b).state = .ready → entry.toNat < (s.block b).stepCount → l.status = .on → l.owner = .operator →
         ∃ u : State, exec (.startRequest n tag block entry) s = .next u.settlePort ∧ OnlyLine n s u ∧ u.common = s.common ∧
           u.line n = { l with
             run := { l.run with
               state := .queued, block := b, entry := entry.toNat, counter := 0, immediate := 0, trail := []
               failure := .none }
             takenTag := some tag, result := .accepted } ∧
           u.block b = { s.block b with useCount := (s.block b).useCount + 1 } ∧ (∀ c, c ≠ b → u.block c = s.block c) ∧
           u.reports.headerDirty = true ∧ u.reports.held.get n = s.reports.held.get n ||| 0x004)) ∧
  (∀ (n : LineNo) (tag block entry : Word) (st : StepRecord) (s : State), s.ctl.part = .running → n.val < s.linesInUse →
     ∀ h : block.toNat < 16,
       let b : BlockNo := ⟨block.toNat, h⟩
       let l := s.line n
       l.run.state = .idle → (s.block b).state = .ready → entry.toNat < (s.block b).stepCount → l.status = .on →
       l.owner = .free → l.ownerInForce = .free → l.tx.isSending = false →
       (s.block b).steps[entry.toNat]? = some st → st.action = 0 →
       (st.wait = 1 ∨ st.wait = 2 ∨ st.wait = 3 ∨ st.wait = 4 ∨ (st.wait = 5 ∧ st.waitArg ≠ 0) ∨
         (st.wait = 6 ∧ st.waitArg ≠ 0) ∨ (st.wait = 7 ∧ l.condition = .spacing) ∨
         (st.wait = 8 ∧ l.condition = .marking)) →
       ∃ u : State, exec (.startRequest n tag block entry) s = .next u.settlePort ∧ OnlyLine n s u ∧ u.common = s.common ∧
         (u.line n).owner = .script ∧ (u.line n).ownerInForce = .script ∧ (u.line n).result = .accepted ∧
         (u.line n).run.state = .waiting ∧ (u.line n).run.current = entry.toNat ∧ (u.line n).run.block = b ∧
         (u.line n).run.trail = [] ∧ (u.line n).run.counter = 0 ∧ (u.line n).run.phase = .a ∧
         (u.line n).run.stepTimer = (if st.timeout.toNat = 0 then none else some (min 600000 st.timeout.toNat + 1)) ∧
         (u.line n).run.waitTimer = (if st.wait = 4 then some (max 1 (min 60000 st.waitArg.toNat) + 1)
           else if st.wait = 6 then some (min 600000 st.waitArg.toNat + 1) else none) ∧
         (st.wait = 5 → (u.line n).run.countLeft = min 65535 st.waitArg.toNat) ∧
         (u.line n).scriptFresh = 0 ∧ (u.block b).useCount = (s.block b).useCount + 1)

/-- PAUSE stops an ACTING or WAITING runner where it stands and, with Claim set under SCRIPT, makes Owner LENT, which
is in force at once unless a character is in progress. RESUME clears script freshness, makes a LENT owner SCRIPT, and
goes on: from ACTING with no result the action is awaited; COMPLETED arms the wait, and one that holds at arming ends
the step by Success; FAILED ends it by Failure; from WAITING a MARKING or SPACING wait that the condition now
satisfies ends it by Success, and any other wait goes on with what it had. A resumed step is not immediate. That the
owner is settled before the runner goes on is log entry 35. Elsewhere they are refused with NOT_RUNNING and
NOT_PAUSED, and on a line that is not ON with LINE_OFF. -/
def Obligations.PauseAndResume : Prop :=
  ∀ (n : LineNo) (tag : Word) (s : State), s.ctl.part = .running → n.val < s.linesInUse →
    let l := s.line n
    let r := l.run
    let becomes (cmd : Instr) (k : Line) : Prop := ∃ u : State, exec cmd s = .next u.settlePort ∧
      LineBecomes n s u k (s.raise n .requestTaken).reports
    let record (k : Line) (r : ReqResult) : Line := { k with takenTag := some tag, result := r }
    let resumed (st : RunnerState) : Line :=
      let k : Line := { l with scriptFresh := 0, run := { r with state := st, actionResult := none } }
      if l.owner ≠ .lent then k
      else if l.tx.isSending then { k with owner := .script }
      else { k with
        owner := .script, ownerInForce := .script
        staging := (if l.ownerInForce = .operator ∨ l.ownerInForce = .lent then [] else l.staging) }
    let resumes (st : RunnerState) (f : State → State) : Prop :=
      ∃ v : State, LineBecomes n s v (resumed st) (s.mark n).reports ∧
        exec (.resumeRequest n tag) s = .next (State.recordResult n tag (f v, .accepted)).settlePort
    (l.status ≠ .on → becomes (.pauseRequest n tag) (record l .lineOff) ∧
      becomes (.resumeRequest n tag) (record l .lineOff)) ∧
    (l.status = .on → r.state ≠ .acting → r.state ≠ .waiting →
      becomes (.pauseRequest n tag) (record l .notRunning)) ∧
    (l.status = .on → (∀ p, r.state ≠ .paused p) → becomes (.resumeRequest n tag) (record l .notPaused)) ∧
    (l.status = .on → ∀ p : PausedFrom,
      r.state = (match p with | .acting => .acting | .waiting => .waiting) →
      ((l.owner ≠ .script ∨ l.claim = false) →
        becomes (.pauseRequest n tag) (record { l with run := { r with state := .paused p } } .accepted)) ∧
      (l.owner = .script → l.claim = true →
        becomes (.pauseRequest n tag) (record { l with
          owner := .lent, ownerInForce := (if l.tx.isSending then l.ownerInForce else .lent)
          run := { r with state := .paused p } } .accepted))) ∧
    (l.status = .on → r.state = .paused .acting →
      (r.actionResult = none → becomes (.resumeRequest n tag) (record (resumed .acting) .accepted)) ∧
      (r.actionResult = some .completed → resumes .acting fun v =>
        if s.waitHolds n then follow n ((v.armWait n).endStep n .success false) else v.armWait n) ∧
      (r.actionResult = some .failed → resumes .acting fun v => follow n (v.endStep n .failure false))) ∧
    (l.status = .on → r.state = .paused .waiting →
      let now := (s.step n).wait = 7 ∧ l.condition = .marking ∨ (s.step n).wait = 8 ∧ l.condition = .spacing
      (now → resumes .waiting fun v => follow n (v.endStep n .success false)) ∧
      (¬ now → becomes (.resumeRequest n tag) (record (resumed .waiting) .accepted)))

/-- ABORT is accepted in every runner state and line status. On an IDLE runner it changes nothing; otherwise the run
ends ABORTED: an ENDED_BY_ABORT entry if a step had started, IDLE with its timers stopped, one use of the block fewer,
SCRIPT_ENDED and REQUEST_TAKEN raised. Its work is wound up. A break that the run ordered ends at once if it is being
sent, when the next break kept starts, or the transmitter goes to HELD with the flow hold set, else to a gap of the
Char Gap, IDLE if that is 0; one that waits is removed; a break that a request ordered is left. A character in
progress runs on and, if a SEND's, counts for nobody. A detection in progress is cancelled and P stays, the output
goes to REST. The owner is settled: from SCRIPT or LENT it is OPERATOR with Claim set and FREE with it clear, and
OPERATOR stays; Owner In Force follows at once unless a character is in progress, and the staging is emptied as the
operator loses the line. That the discarded Match Phase reads A is log entry 33, that Text Offset, Immediate Count and
Count Remaining stay is log entry 38, and that a cancelled detection keeps its Verified Count is log entry 39. -/
def Obligations.AbortRequest : Prop :=
  ∀ (n : LineNo) (tag : Word) (s : State), s.ctl.part = .running → n.val < s.linesInUse →
    let l := s.line n
    let r := l.run
    let kept := l.breaks.filter fun b => !b.byStep
    let ownCut := match l.tx with | .brk b _ => b.byStep | _ => false
    let owner := if l.owner = .script ∨ l.owner = .lent then (if l.claim then .operator else .free) else l.owner
    let lost := (l.ownerInForce = .operator ∨ l.ownerInForce = .lent) ∧ owner ≠ .operator ∧ owner ≠ .lent
    let sending := l.tx.isSending = true
    let measuring := l.det.state = .measuring
    (r.state = .idle → ∃ u : State, exec (.abortRequest n tag) s = .next u.settlePort ∧
      LineBecomes n s u { l with takenTag := some tag, result := .accepted } (s.raise n .requestTaken).reports) ∧
    (r.state ≠ .idle → ∃ u : State, exec (.abortRequest n tag) s = .next u.settlePort ∧ u.common = s.common ∧
      u.port = s.port ∧
      u.line n = { l with
        takenTag := some tag, result := .accepted
        run := { r with
          state := .idle, actionResult := none, stepTimer := none, waitTimer := none, phase := .a, begun := true
          last := some ⟨.aborted, 0, if r.state = .queued then r.entry else r.current, .endedByAbort, s.clock.ms⟩
          trail := (if r.state = .queued then r.trail
            else (r.trail ++ ([⟨r.current, .endedByAbort, s.clock.ms⟩] : List TrailEntry)).drop (r.trail.length + 1 - 8)) }
        breaks := (if ownCut then kept.tail else kept)
        tx := (match l.tx with
          | .sending c => .sending { c with source := (if c.source = .script then .nobody else c.source) }
          | .brk b t => if b.byStep = true then (match kept with
              | d :: _ => .brk d (timerStart d.length)
              | [] => if l.flowHeld then .held else if l.settings.charGap = 0 then .idle
                else .gap (timerStart l.settings.charGap))
            else .brk b t
          | t => t)
        owner := owner, ownerInForce := (if sending then l.ownerInForce else owner)
        staging := (if ¬ sending ∧ lost then [] else l.staging)
        out := (if l.out.state = .rest then l.out else { l.out with
          state := .rest, time := s.clock.ms, timer := none
          ended := (if l.out.state = .pulsing then .cut else l.out.ended) })
        det := (if l.det.state = .none then l.det else { l.det with
          state := .none, outcome := .cancelled, concluded := s.clock.ms, limit := none, bound := false
          counted := (if measuring then 0 else l.det.counted)
          least := (if measuring then none else l.det.least), meas := ⟨false, false, 0⟩ }) } ∧
      (l.det.state ≠ .none → n ∉ u.queue ∧ n ∉ u.slots) ∧
      (l.det.state = .none → u.queue = s.queue ∧ u.slots = s.slots) ∧
      u.block r.block = { s.block r.block with useCount := (s.block r.block).useCount - 1 } ∧
      (∀ c, c ≠ r.block → u.block c = s.block c) ∧ u.reports.headerDirty = true ∧ u.reports.dirty.get n = true ∧
      u.reports.held.get n = s.reports.held.get n ||| 0x001 ||| 0x004 ∧
      ∀ m, m ≠ n → (u.line m).SameButDetection (s.line m))

/-- A taken BREAK: LINE_OFF, OWNER while Owner is SCRIPT, BUSY while a break is being sent or waits; else the clamped
order starts at once from IDLE, GAP or HELD, and after the character in progress otherwise. -/
def Obligations.BreakRequest : Prop :=
  ∀ (n : LineNo) (tag length : Word) (s : State), s.ctl.part = .running → n.val < s.linesInUse →
    let l := s.line n
    let order : BreakOrder := ⟨max 10 (min 5000 length.toNat), false⟩
    let becomes (k : Line) (r : ReqResult) : Prop := ∃ u : State, exec (.breakRequest n tag length) s = .next u.settlePort ∧
      LineBecomes n s u { k with takenTag := some tag, result := r } (s.raise n .requestTaken).reports
    (l.status ≠ .on → becomes l .lineOff) ∧
    (l.status = .on → l.owner = .script → becomes l .owner) ∧
    (l.status = .on → l.owner ≠ .script → (l.tx.isBreak = true ∨ l.breaks ≠ []) → becomes l .busy) ∧
    (l.status = .on → l.owner ≠ .script → l.tx.isBreak = false → l.breaks = [] →
      (l.tx.isSending = true → becomes { l with breaks := [order] } .accepted) ∧
      (l.tx.isSending = false → becomes { l with tx := .brk order (timerStart order.length) } .accepted))

/-- The three output requests: LINE_OFF, LOCKED, SCRIPT_RUNNING by the first test that applies, leaving the output as
it was; otherwise the order is given in the same event, a PULSE with its clamped width. A drive to a state that the
output does not hold takes it there, stamps State Time, stops the timer, and ends a pulse CUT; to the state held,
nothing. What an order does to the output: a pulse starts or restarts with the Pulse Width given; a drive changes the
state and stamps it, and ends a pulse CUT; a drive to the state held changes nothing. -/
def Obligations.OutputRequests : Prop :=
  (∀ (n : LineNo) (tag width : Word) (s : State), s.ctl.part = .running → n.val < s.linesInUse →
     let l := s.line n
     let w := max 10 (min 60000 width.toNat)
     let driven (o : OutputState) : Output := if l.out.state = o then l.out else { l.out with
       state := o, time := s.clock.ms, timer := none, ended := (if l.out.state = .pulsing then .cut else l.out.ended) }
     let becomes (cmd : Instr) (k : Line) (r : ReqResult) : Prop := ∃ u : State, exec cmd s = .next u.settlePort ∧
       LineBecomes n s u { k with takenTag := some tag, result := r } (s.raise n .requestTaken).reports
     (∀ cmd : Instr, (cmd = .pulseRequest n tag width ∨ cmd = .driveActiveRequest n tag ∨ cmd = .driveRestRequest n tag) →
       (l.status ≠ .on → becomes cmd l .lineOff) ∧
       (l.status = .on → s.locked n = true → becomes cmd l .locked) ∧
       (l.status = .on → s.locked n = false → l.run.state ≠ .idle → becomes cmd l .scriptRunning)) ∧
     (l.status = .on → s.locked n = false → l.run.state = .idle →
       becomes (.pulseRequest n tag width) { l with out := { l.out with
         state := .pulsing, time := s.clock.ms, width := w, timer := some (w + 1) } } .accepted ∧
       becomes (.driveActiveRequest n tag) { l with out := driven .active } .accepted ∧
       becomes (.driveRestRequest n tag) { l with out := driven .rest } .accepted)) ∧
  (∀ (n : LineNo) (w : Nat) (s : State),
     let l := s.line n
     LineBecomes n s (s.orderPulse n w) { l with out := { l.out with
       state := .pulsing, time := s.clock.ms, width := w, timer := some (w + 1) } } (s.mark n).reports ∧
     ∀ o : OutputState, o ≠ .pulsing →
       (l.out.state = o → LineBecomes n s (s.orderDrive n o) l s.reports) ∧
       (l.out.state ≠ o → LineBecomes n s (s.orderDrive n o) { l with out := { l.out with
         state := o, time := s.clock.ms, timer := none
         ended := (if l.out.state = .pulsing then .cut else l.out.ended) } } (s.mark n).reports))

/-- A taken APPLY: LINE_OFF, BUSY, INVALID, or the settings but for the ring fields and Capture Mode, clamped; P
becomes the Bit Period with FIXED and stays otherwise. One with Flow NONE clears a flow hold that is set, with its
timer, and takes the transmitter from HELD to IDLE. A taken DETECT: LINE_OFF, BUSY, or a detection starts that no step
waits for. -/
def Obligations.ApplyAndDetect : Prop :=
  ∀ (n : LineNo) (tag : Word) (h : LineHost) (s : State), s.ctl.part = .running → n.val < s.linesInUse →
    let l := s.line n
    let busy := l.run.state ≠ .idle ∨ l.det.state ≠ .none
    let becomes (cmd : Instr) (k : Line) (r : ReqResult) : Prop := ∃ u : State, exec cmd s = .next u.settlePort ∧
      LineBecomes n s u { k with takenTag := some tag, result := r } (s.raise n .requestTaken).reports
    (l.status ≠ .on → becomes (.applyRequest n tag h) l .lineOff ∧ becomes (.detectRequest n tag) l .lineOff) ∧
    (l.status = .on → busy → becomes (.applyRequest n tag h) l .busy ∧ becomes (.detectRequest n tag) l .busy) ∧
    (l.status = .on → ¬ busy → formatOf h = none → becomes (.applyRequest n tag h) l .invalid) ∧
    (l.status = .on → ¬ busy → ∀ f, formatOf h = some f →
      let cleared := l.flowHeld = true ∧ f.flow = .none
      becomes (.applyRequest n tag h) { l with
        settings := { l.settings with
          dataBits := f.dataBits, parity := f.parity, stopBits := f.stopBits, rateMode := f.rateMode
          bitPeriod := max 16 (min 131071 h.bitPeriod.toNat), fallback := max 16 (min 131071 h.fallback.toNat)
          tolerance := max 5 (min 100 h.tolerance.toNat), rawAllowed := h.rawAllowed != 0
          detectLimit := max 1000 (min 120000 h.detectLimit.toNat), flow := f.flow
          holdLimit := min 60000 h.holdLimit.toNat, charGap := min 255 h.charGap.toNat
          lineGap := min 2000 h.lineGap.toNat, absentTime := max 100 (min 10000 h.absentTime.toNat) }
        clamped := anyClamped h
        flowHeld := (if cleared then false else l.flowHeld)
        holdTimer := (if cleared then none else l.holdTimer)
        tx := (if cleared ∧ l.tx = .held then .idle else l.tx)
        period := (if f.rateMode = .fixed then max 16 (min 131071 h.bitPeriod.toNat) else l.period) } .accepted) ∧
    (l.status = .on → ¬ busy → ∃ u : State, exec (.detectRequest n tag) s = .next u.settlePort ∧
      (u.line n).result = .accepted ∧ (u.line n).takenTag = some tag ∧ (u.line n).det.bound = false ∧
      (u.line n).det.limit = timerStart l.settings.detectLimit ∧ (u.line n).det.attempts = 0 ∧
      (u.line n).det.state ≠ .none ∧ (u.line n).period = l.period ∧ u.common = s.common)

/-- The trigger requests. ARM_TRIGGER: LINE_OFF, FROZEN, or ARMED with the record's pattern, its Length clamped to 1
to 24, the Post Count clamped, and trigger freshness 0. DISARM takes ARMED and COUNTING to OFF and leaves OFF and
FROZEN; THAW takes any state to OFF, and in HOLD Tail is then Taken In Force. Both are accepted whatever the line
status. That Post Count stays as the trigger goes OFF is the model's choice (log entry 41). -/
def Obligations.TriggerRequests : Prop :=
  ∀ (n : LineNo) (tag post : Word) (p : PatternRecord) (s : State), s.ctl.part = .running → n.val < s.linesInUse →
    let l := s.line n
    let becomes (cmd : Instr) (k : Line) (r : ReqResult) : Prop := ∃ u : State, exec cmd s = .next u.settlePort ∧
      LineBecomes n s u { k with takenTag := some tag, result := r } (s.raise n .requestTaken).reports
    let off : Line := { l with cap := { l.cap with
      trigger := .off, pattern := none, lead := 0, remaining := 0
      tail := (if l.settings.captureMode = .hold then l.cap.taken else l.cap.tail) } }
    (l.status ≠ .on → becomes (.armTriggerRequest n tag post p) l .lineOff) ∧
    (l.status = .on → l.cap.trigger = .frozen → becomes (.armTriggerRequest n tag post p) l .frozen) ∧
    (l.status = .on → l.cap.trigger ≠ .frozen → becomes (.armTriggerRequest n tag post p) { l with
      trigFresh := 0
      cap := { l.cap with
        trigger := .armed
        pattern := some ⟨max 1 (min 24 p.length.toNat), p.chars, p.wildcards, p.foldCase != 0, p.lineStart != 0⟩
        post := min 65535 post.toNat, lead := 0, remaining := 0 } } .accepted) ∧
    ((l.cap.trigger = .off ∨ l.cap.trigger = .frozen) → becomes (.disarmRequest n tag) l .accepted) ∧
    ((l.cap.trigger = .armed ∨ l.cap.trigger = .counting) → becomes (.disarmRequest n tag) off .accepted) ∧
    becomes (.thawRequest n tag) off .accepted

/-! ## The start, the stop and the bus -/

/-- The header read of a start completes: Lines In Use, the sweep interval and the masks are taken clamped, the Lock
Set grows by the header's, lines beyond those in use leave the Dirty Set and lose their held causes, the part is
RUNNING with the header dirty, the sweep timer runs and the first sweep has begun. No line changes. The read left over
from a start given up is discarded. -/
def Obligations.StartCompletes : Prop :=
  ∀ (bs : List Byte) (t : Transaction) (s : State), bs.length = 128 → s.port.inFlight = some t →
    t.job = .startHeader → s.port.flag = false →
    let h := headerHostOf bs
    let lines := max 1 (min 32 h.linesInUse.toNat)
    let i := max 1 (min 1000 h.interval.toNat)
    let port := { s.port with inFlight := none, tenure := s.port.tenure + 1 }
    (t.stale = true → ∃ u : State, exec (.startHeaderReadComplete bs) s = .next u.settlePort ∧
      u = { s with port := port }) ∧
    (t.stale = false → ∃ u : State, exec (.startHeaderReadComplete bs) s = .next u.settlePort ∧
      u.ctl = { s.ctl with part := .running, windUp := false } ∧ u.linesInUse = lines ∧
      u.lockSet = s.lockSet ||| h.lock ∧
      u.scan = { s.scan with interval := i, timer := timerStart i, pending := false, position := some .header } ∧
      u.notices = { s.notices with lineMask := h.lineMask.truncate 12, stationMask := h.stationMask.truncate 4 } ∧
      u.port = port ∧ u.lines = s.lines ∧ u.store = s.store ∧ u.clock = s.clock ∧ u.queue = s.queue ∧
      u.slots = s.slots ∧ u.reports.headerDirty = true ∧ u.reports.heldStation = s.reports.heldStation ∧
      ∀ n : LineNo,
        (n.val < lines → u.reports.dirty.get n = s.reports.dirty.get n ∧ u.reports.held.get n = s.reports.held.get n) ∧
        (lines ≤ n.val → u.reports.dirty.get n = false ∧ u.reports.held.get n = 0))

/-- The stop's wind-up: with every FIFO empty, no character in progress, nothing in flight and nothing dirty (or the
fault flag set), STOPPED is held with the header, which is dirty. With the flag clear the part waits in STOPPING for
the header's write, whose Part State is HALTED; with the flag set it is HALTED at once. That the wind-up's end is a
command of its own is the model's (log entry 10). -/
def Obligations.StopWindsUp : Prop :=
  ∀ s : State, s.ctl.part = .stopping → s.ctl.windUp = false → s.port.inFlight = none →
    (∀ n : LineNo, (s.line n).cap.fifo = [] ∧ (s.line n).tx.isSending = false) →
    (s.port.flag = true ∨
      s.reports.headerDirty = false ∧ ∀ n : LineNo, n.val < s.linesInUse → s.reports.dirty.get n = false) →
    ∃ u : State, exec .stopWindUpComplete s = .next u.settlePort ∧
      u = { s with
        ctl := u.ctl
        reports := { s.reports with headerDirty := true, heldStation := s.reports.heldStation ||| 0x8 } } ∧
      (s.port.flag = true → u.ctl = { s.ctl with part := .halted }) ∧
      (s.port.flag = false → u.ctl = { s.ctl with windUp := true } ∧ (headerPart u).head? = some 0)

/-- HOLDA: its rise while the port is REQUESTING is the grant, which begins a tenure; at any other time, and when it
falls, only the pin's level changes. -/
def Obligations.BusGrant : Prop :=
  ∀ s : State,
    (s.port.holda = true → exec .holdaRise s = .next s) ∧
    (s.port.holda = false → s.port.bus ≠ .requesting →
      exec .holdaRise s = .next { s with port := { s.port with holda := true } }) ∧
    (s.port.holda = false → s.port.bus = .requesting →
      exec .holdaRise s =
        .next ({ s with port := { s.port with holda := true, bus := .holding, tenure := 0 } } : State).settlePort) ∧
    exec .holdaFall s = .next { s with port := { s.port with holda := false } }

/-- What the port does as an event ends: the first asking client is the one nearest after Last Served in the cyclic
order; holding the bus with nothing in flight, the port starts that client's transaction, or ends the tenure for want
of work or after eight transactions, raising HOLD again if a client still asks; idle with the flag clear it raises
HOLD for an asking client; otherwise it does nothing. That asking is judged as each event ends is log entry 25; the
client remembered for a GRANT fault is log entry 26; that Tenure Count keeps its value as HOLD is lowered is log entry
32. The lines, the store and what no line's event changes stay. What each client asks for. The Scanner: the header of
a start while STARTING, else the record at Sweep Position. The Capture Writer: the first line, counted from the one
after its pointer round to it, that is ON or drains (log entry 16) and has at least one byte to write. The Fetcher: in
that order from its own pointer, the first ON line whose Owner In Force is OPERATOR or LENT, with an empty staging and
a pending length above 0. The Report Writer, while RUNNING or STOPPING: the first dirty record of the header and the
lines in use, from the one after its position round to it. The Loader: the next transaction of its load. The
transaction that starts makes that line or record the pointer, and a load read is of 128 bytes, 64 the last, at the
source plus 128 for each one before it. -/
def Obligations.PortServes : Prop :=
  (∀ s : State,
     let after (c : Client) : Nat := (clientCode (some c) + 4 - clientCode (some s.port.lastServed)) % 5
     let wanted (p : Port) : Port := match s.firstAsking with
       | some c => { p with bus := .requesting, grantClient := some c }
       | none => p
     (s.firstAsking = none ↔ ∀ c, s.asking c = false) ∧
     (∀ c, s.firstAsking = some c → s.asking c = true ∧ ∀ d, s.asking d = true → after c ≤ after d) ∧
     (s.settlePort.lines = s.lines ∧ s.settlePort.store = s.store ∧ s.settlePort.common = s.common ∧
       s.settlePort.queue = s.queue ∧ s.settlePort.slots = s.slots) ∧
     (s.port.bus = .holding → s.port.inFlight = none → s.port.tenure < 8 →
       (∀ c j, s.firstAsking = some c → s.jobOf c = some j →
         s.settlePort.port = { s.port with inFlight := some (s.form j), lastServed := c }) ∧
       (s.firstAsking = none → s.settlePort = { s with port := { s.port with bus := .idle } })) ∧
     (s.port.bus = .holding → s.port.inFlight = none → 8 ≤ s.port.tenure → s.port.flag = false →
       s.settlePort = { s with port := wanted { s.port with bus := .idle } }) ∧
     (s.port.bus = .idle → s.port.flag = false → s.settlePort = { s with port := wanted s.port }) ∧
     (s.port.bus = .idle → s.port.flag = true → s.settlePort = s) ∧
     (s.port.bus = .requesting → s.settlePort = s) ∧
     (s.port.bus = .holding → s.port.inFlight ≠ none → s.settlePort = s)) ∧
  (∀ s : State,
     let lineAfter (p n : LineNo) : Nat := (n.val + 31 - p.val) % 32
     let writes (n : LineNo) : Prop := ((s.line n).status = .on ∨ (s.line n).cap.draining = true) ∧ 1 ≤ (s.line n).writable
     let fetches (n : LineNo) : Prop := (s.line n).status = .on ∧
       ((s.line n).ownerInForce = .operator ∨ (s.line n).ownerInForce = .lent) ∧ (s.line n).staging = [] ∧
       0 < (s.line n).pendingLength
     let place (r : Record) : Nat := match r with | .header => 0 | .line n => n.val + 1
     let recordAfter (r : Record) : Nat := (place r + 32 - place s.reports.position) % 33
     let dirty (r : Record) : Prop := (s.ctl.part = .running ∨ s.ctl.part = .stopping) ∧ (match r with
       | .header => s.reports.headerDirty
       | .line n => decide (n.val < s.linesInUse) && s.reports.dirty.get n) = true
     let report (r : Record) : Job := match r with | .header => .reportHeader | .line n => .reportLine n
     (s.jobOf .scanner = if s.ctl.part = .starting then some .startHeader else match s.scan.position with
       | none => none
       | some .header => some .sweepHeader
       | some (.line n) => some (.sweepLine n)) ∧
     ((s.jobOf .capture = none ↔ ∀ n, ¬ writes n) ∧
       ∀ j, s.jobOf .capture = some j → ∃ n, j = .capture n ∧ writes n ∧
         ∀ m, writes m → lineAfter s.capturePos n ≤ lineAfter s.capturePos m) ∧
     ((s.jobOf .fetcher = none ↔ ∀ n, ¬ fetches n) ∧
       ∀ j, s.jobOf .fetcher = some j → ∃ n, j = .fetch n ∧ fetches n ∧
         ∀ m, fetches m → lineAfter s.fetchPos n ≤ lineAfter s.fetchPos m) ∧
     ((s.jobOf .report = none ↔ ∀ r, ¬ dirty r) ∧
       ∀ j, s.jobOf .report = some j → ∃ r, j = report r ∧ dirty r ∧ ∀ q, dirty q → recordAfter r ≤ recordAfter q) ∧
     (s.store.loader = none → s.jobOf .loader = none) ∧
     (∀ l, s.store.loader = some l → s.jobOf .loader = some (.load l.next) ∧ ∀ k : Nat,
       s.form (.load k) = ⟨.load k, l.source + BitVec.ofNat 32 (128 * k), if k = 36 then 64 else 128, [], false⟩) ∧
     ((s.form .startHeader).length = 128 ∧ (s.form .sweepHeader).length = 128 ∧
       (s.form .reportHeader).length = 128 ∧ ∀ n, (s.form (.sweepLine n)).length = 128 ∧
         (s.form (.reportLine n)).length = 128) ∧
     (s.port.bus = .holding → s.port.inFlight = none → s.port.tenure < 8 →
       ∀ c j, s.firstAsking = some c → s.jobOf c = some j →
         (∀ n, j = .capture n → s.settlePort.capturePos = n) ∧
         ((∀ n, j ≠ .capture n) → s.settlePort.capturePos = s.capturePos) ∧
         (∀ n, j = .fetch n → s.settlePort.fetchPos = n) ∧
         ((∀ n, j ≠ .fetch n) → s.settlePort.fetchPos = s.fetchPos) ∧
         (∀ r, j = report r → s.settlePort.reports = (s.startJob j).reports ∧ s.settlePort.reports.position = r) ∧
         ((∀ r, j ≠ report r) → s.settlePort.reports = s.reports)))

/-- The three faults of the Memory Port: the record of kind, client and address, HOLD lowered and nothing in flight;
the sweep abandoned; MEMORY_FAULT pending at once whatever the mask; a load concluded MEMORY_FAULT with its block
EMPTY; a report write's record dirty again with its causes held. A start is ended. In STOPPING with the wind-up
complete the part is HALTED by any of the three (log entry 31), else it stays STOPPING. Outside STOPPING no line
changes; in it every FIFO is emptied, its characters are added to Dropped, which saturates, DATA_DROPPED is raised and
Draining is clear, and a line whose FIFO was empty is left as it was. An answer or an expiry with nothing to strike
changes nothing. The client of a GRANT fault is log entry 26; that Tenure Count keeps its value as HOLD is lowered is
log entry 32. -/
def Obligations.MemoryFaults : Prop :=
  (∀ (cmd : Instr) (kind : FaultKind) (client : Option Client) (addr : Word) (s : State),
    ((cmd = .grantTimeout ∧ s.port.bus = .requesting ∧ kind = .grant ∧ client = s.port.grantClient ∧ addr = 0) ∨
      ∃ t, s.port.inFlight = some t ∧ client = some t.job.client ∧ addr = t.addr ∧
        (cmd = .accessTimeout ∧ kind = .access ∨ cmd = .busError ∧ kind = .error)) →
    ∃ u : State, exec cmd s = .next u ∧ u.holdPin = false ∧
      u.port = { s.port with
        flag := true, faultKind := kind, faultClient := client, faultAddr := addr, bus := .idle, inFlight := none } ∧
      u.scan = { s.scan with position := none } ∧
      u.notices = { s.notices with station := s.notices.station ||| 0x4 } ∧
      u.lockSet = s.lockSet ∧ u.clock = s.clock ∧ u.linesInUse = s.linesInUse ∧
      (s.ctl.part = .running ∨ s.ctl.part = .halted → u.ctl = s.ctl) ∧
      (s.ctl.part = .starting → u.ctl = { s.ctl with part := .halted }) ∧
      (s.ctl.part = .stopping → s.ctl.windUp = true → u.ctl = { s.ctl with part := .halted, windUp := false }) ∧
      (s.ctl.part = .stopping → s.ctl.windUp = false → u.ctl = s.ctl) ∧
      (∀ n : LineNo,
        let l := s.line n
        let c := l.cap
        let discarded := s.ctl.part = .stopping ∧ c.fifo ≠ []
        let returned := match s.port.inFlight with
          | some t => if t.job = .reportLine n then s.reports.carried else 0
          | none => 0
        (¬ discarded → u.line n = l) ∧
        (discarded → u.reports.dirty.get n = true ∧ u.line n = { l with cap := { c with
          fifo := [], dropped := min 4294967295 (c.dropped + c.fifo.length), draining := false } }) ∧
        u.reports.held.get n = s.reports.held.get n ||| returned ||| (if discarded then 0x200 else 0)) ∧
      (s.store.loader = none → u.store = s.store) ∧
      (∀ l, s.store.loader = some l → u.store.loader = none ∧ u.store.loadResult = .memoryFault ∧
        u.store.loadBlock = l.block.val ∧ (u.block l.block).state = .empty ∧
        u.reports.heldStation &&& 0x2 = 0x2 ∧ u.reports.headerDirty = true) ∧
      (∀ t n, s.port.inFlight = some t → t.job = .reportLine n → u.reports.dirty.get n = true) ∧
      (∀ t, s.port.inFlight = some t → t.job = .reportHeader → s.store.loader = none →
        u.reports.headerDirty = true ∧
        u.reports.heldStation = s.reports.heldStation ||| s.reports.carriedStation)) ∧
  ∀ s : State, (s.port.bus ≠ .requesting → exec .grantTimeout s = .next s) ∧
    (s.port.inFlight = none → exec .accessTimeout s = .next s ∧ exec .busError s = .next s)

/-! ## The completions -/

/-- An outbound fetch reads the pending bytes, the distance from Sent to Fill Seen, from Outbound Base + (Sent mod
Outbound Size), at most 64 and never across the ring end; that nothing is pending where Sent has passed Fill Seen is
log entry 14. On its completion the bytes are staged on an ON line whose owner in force is OPERATOR or LENT, and are
discarded otherwise, and when the line has gone OFF since. -/
def Obligations.OutboundFetch : Prop :=
  ∀ (n : LineNo) (bs : List Byte) (t : Transaction) (s : State),
    let l := s.line n
    let size := l.settings.outboundSize
    let f := s.form (.fetch n)
    let done : State := { s with port := { s.port with inFlight := none, tenure := s.port.tenure + 1 } }
    l.pendingLength = (if size < dist l.sent l.fillSeen then 0 else dist l.sent l.fillSeen) ∧
    f.addr = l.settings.outboundBase + BitVec.ofNat 32 (l.sent.toNat % size) ∧
    f.length = min (min 64 l.pendingLength) (size - l.sent.toNat % size) ∧
    (s.port.inFlight = some t → t.job = .fetch n → bs.length = t.length →
      (t.stale = false → l.status = .on → (l.ownerInForce = .operator ∨ l.ownerInForce = .lent) →
        ∃ u : State, exec (.outboundFetchComplete bs) s = .next u.settlePort ∧
          LineBecomes n done u { l with staging := bs.take l.pendingLength } s.reports) ∧
      ((t.stale = true ∨ l.status ≠ .on ∨ l.ownerInForce = .free ∨ l.ownerInForce = .script) →
        exec (.outboundFetchComplete bs) s = .next done.settlePort))

/-- A report write is formed from the part section as it stands, its record leaves the dirty ones, and its held causes
are carried; on its completion they reach the Notice Unit through the masks and no cause is carried. The completion of
a header write that shows the stop's end makes the part HALTED. What a line's part section holds, offset by offset; an
unset taken tag is written as 0 with result 15. Trail entries beyond Trail Count are 0. That the fields of a Last
Outcome are 0 where no run has ended is log entry 36. What the header's part section and the registers read as; an
unset station tag is written as 0 with result 255, and reserved bytes as 0. A read of a half-word or a byte gives
those bits of the register's word (R194); a register is read while RESETN is high. The codes of the status fields. -/
def Obligations.ReportWrite : Prop :=
  ((∀ (n : LineNo) (s : State), (s.form (.reportLine n)).data = linePart (s.line n) ∧
     (s.form (.reportLine n)).data.length = 128 ∧
     (s.startJob (.reportLine n)).reports = { s.reports with
       dirty := s.reports.dirty.set n.val false n.isLt, position := .line n
       carried := s.reports.held.get n, carriedStation := 0, held := s.reports.held.set n.val 0 n.isLt }) ∧
   (∀ s : State, (s.form .reportHeader).data = headerPart s ∧ (s.form .reportHeader).data.length = 128 ∧
     (s.startJob .reportHeader).reports = { s.reports with
       headerDirty := false, position := .header
       carried := 0, carriedStation := s.reports.heldStation, heldStation := 0 }) ∧
   ∀ (t : Transaction) (s : State), s.port.inFlight = some t →
     let port := { s.port with inFlight := none, tenure := s.port.tenure + 1 }
     (∀ n, t.job = .reportLine n → ∃ u : State, exec .reportWriteComplete s = .next u.settlePort ∧
       u = { s with
         port := port, reports := { s.reports with carried := 0 }
         notices := { s.notices with
           line := s.notices.line.set n.val (s.notices.line.get n ||| (s.reports.carried &&& s.notices.lineMask)) n.isLt } }) ∧
     (t.job = .reportHeader → ∃ u : State, exec .reportWriteComplete s = .next u.settlePort ∧
       u = { s with
         port := port, reports := { s.reports with carriedStation := 0 }, ctl := u.ctl
         notices := { s.notices with
           station := s.notices.station ||| (s.reports.carriedStation &&& (s.notices.stationMask ||| 0x4)) } } ∧
       (s.ctl.part = .stopping → s.ctl.windUp = true → u.ctl = { s.ctl with part := .halted, windUp := false }) ∧
       ((s.ctl.part ≠ .stopping ∨ s.ctl.windUp = false) → u.ctl = s.ctl))) ∧
  (∀ l : Line,
     let b := linePart l
     let byte (k : Nat) : Nat := (byteAt b k).toNat
     let half (k : Nat) : Nat := byte k + 256 * byte (k + 1)
     let bits (v lo width : Nat) : Nat := v / 2 ^ lo % 2 ^ width
     let w88 := (wordAt b 88).toNat
     let w92 := (wordAt b 92).toNat
     let w104 := (wordAt b 104).toNat
     let flag (x : Bool) : Nat := if x then 1 else 0
     let r := l.run
     let st := l.settings
     b.length = 128 ∧
     (l.takenTag = none → wordAt b 0 = 0 ∧ bits (byte 116) 0 4 = 15) ∧
     (∀ t, l.takenTag = some t → wordAt b 0 = t ∧ bits (byte 116) 0 4 = l.result.code) ∧
     (wordAt b 4 = l.cap.head ∧ wordAt b 8 = l.cap.tail ∧ wordAt b 12 = l.cap.taken ∧
       (wordAt b 16).toNat = l.cap.dropped % 2 ^ 32 ∧ wordAt b 20 = l.sent ∧ wordAt b 24 = l.fillSeen ∧
       wordAt b 28 = l.conditionTime ∧ wordAt b 32 = l.breakTime ∧ wordAt b 36 = l.det.concluded ∧
       wordAt b 40 = l.cap.matchTime ∧ wordAt b 44 = l.out.time ∧ wordAt b 48 = r.signalTime) ∧
     (∀ k : Nat, k < 8 → ∀ e, (k < r.trail.length → r.trail[k]? = some e) →
       (r.trail.length ≤ k → e = ⟨0, .success, 0⟩) →
       wordAt b (56 + 4 * k) = e.time ∧ byte (96 + k) = e.step % 256 ∧ bits w104 (3 * k) 3 = e.exit.code) ∧
     (bits w88 0 17 = l.period % 2 ^ 17 ∧ bits w88 17 3 = l.det.attempts % 8 ∧ bits w88 20 12 = l.det.rejected.toNat) ∧
     (bits w92 0 17 = l.det.measured.getD 0 % 2 ^ 17 ∧ bits w92 17 4 = l.det.adoption.code ∧
       bits w92 21 2 = l.det.state.code ∧ bits w92 23 3 = l.det.outcome.code ∧ bits w92 26 1 = flag l.cap.half ∧
       bits w92 27 1 = flag l.cap.lapped ∧ bits w92 28 1 = flag l.cap.draining ∧ bits w92 29 1 = flag l.flowHeld ∧
       bits w92 30 1 = (match l.condition with | .marking => 0 | .spacing => 1) ∧ bits w92 31 1 = flag l.claimSeen) ∧
     (bits w104 24 4 = r.trail.length % 16 ∧ bits w104 28 1 = (match r.phase with | .a => 0 | .b => 1) ∧
       bits w104 29 3 = r.state.code) ∧
     (half 108 = l.garble % 65536 ∧ half 110 = l.out.width % 65536 ∧ half 112 = l.cap.post % 65536 ∧
       half 114 = l.cap.remaining % 65536) ∧
     (bits (byte 116) 4 2 = l.status.code ∧ bits (byte 116) 6 2 = l.refusal.code ∧ bits (byte 117) 0 2 = l.out.state.code ∧
       bits (byte 117) 2 2 = l.out.ended.code ∧ bits (byte 117) 4 2 = l.owner.code ∧
       bits (byte 117) 6 2 = l.ownerInForce.code ∧ bits (byte 118) 0 2 = l.cap.trigger.code ∧
       bits (byte 118) 2 5 = (match l.cap.pattern with | none => 0 | some p => p.length % 32) ∧ bits (byte 118) 7 1 = 0) ∧
     byte 119 = (match st.dataBits with | .seven => 0 | .eight => 1) + 2 * st.parity.code
       + 8 * (match st.stopBits with | .one => 0 | .two => 1) + 16 * (match st.rateMode with | .fixed => 0 | _ => 1)
       + 32 * (match st.flow with | .none => 0 | _ => 1) + 64 * flag st.rawAllowed
       + 128 * (match st.captureMode with | .hold => 0 | .roll => 1) ∧
     (bits (byte 120) 0 4 = r.block.val ∧ bits (byte 120) 7 1 = 0 ∧ bits (half 121) 0 6 = r.entry % 64 ∧
       bits (half 121) 6 6 = r.current % 64 ∧ bits (half 121) 12 3 = r.failure.code ∧ bits (half 121) 15 1 = flag l.clamped ∧
       byte 123 = r.counter % 256 ∧ bits (byte 124) 0 5 = r.textOffset % 32 ∧ bits (byte 126) 6 2 = 0 ∧
       byte 127 = r.signalCode % 256) ∧
     (r.last = none → bits (byte 120) 4 3 = 0 ∧ wordAt b 52 = 0 ∧ bits (byte 124) 5 3 = 0 ∧ byte 125 = 0 ∧
       bits (byte 126) 0 6 = 0) ∧
     ∀ o, r.last = some o → bits (byte 120) 4 3 = o.kind.code ∧ wordAt b 52 = o.time ∧
       bits (byte 124) 5 3 = o.exit.code ∧ byteAt b 125 = o.code ∧ bits (byte 126) 0 6 = o.lastStep % 64) ∧
  (∀ s : State,
     let b := headerPart s
     let byte (k : Nat) : Nat := (byteAt b k).toNat
     let flag (x : Bool) : Nat := if x then 1 else 0
     b.length = 128 ∧
     byte 0 = (if s.ctl.windUp then PartState.halted else s.ctl.part).code ∧ byte 1 = s.linesInUse % 256 ∧
     byte 2 = s.store.loadResult.code ∧ byte 3 = s.store.loadBlock % 256 ∧ wordAt b 4 = s.lockSet ∧
     (wordAt b 8).toNat = s.scan.interval % 2 ^ 32 ∧ wordAt b 12 = s.scan.lastTime ∧
     (s.scan.tag = none → wordAt b 16 = 0 ∧ byte 20 = 255) ∧
     (∀ t, s.scan.tag = some t → wordAt b 16 = t ∧ byte 20 = s.scan.result.code) ∧ byte 21 = s.store.loadIndex % 256 ∧
     (∀ k : BlockNo, byte (24 + 4 * k.val) = (s.block k).state.code ∧
       byte (25 + 4 * k.val) = (s.block k).stepCount % 256 ∧ byte (26 + 4 * k.val) = (s.block k).patternCount % 256 ∧
       byte (27 + 4 * k.val) = (s.block k).useCount % 256) ∧
     (∀ k : Nat, (k = 22 ∨ k = 23 ∨ 88 ≤ k) → byte k = 0) ∧
     (s.ctl.inReset = false →
       let read (k : Nat) : Option Nat := (s.regRead .word k).map BitVec.toNat
       read 0x00 = some (0x0A32 + 1 * 2 ^ 16 + 32 * 2 ^ 20 + 16 * 2 ^ 26) ∧ read 0x04 = some s.ctl.base.toNat ∧
       read 0x08 = some ((if s.ctl.part = .starting ∨ s.ctl.part = .running then 1 else 0)
         + 2 * flag s.ctl.intEnable + 256 * s.ctl.part.code) ∧
       read 0x10 = some (flag s.port.flag + 16 * s.port.faultKind.code + 256 * clientCode s.port.faultClient) ∧
       read 0x14 = some s.port.faultAddr.toNat ∧ (∀ k : Nat, 0x14 < k → read k = some 0) ∧
       ∀ (lane : Lane) (k : Nat), (s.regRead lane k).map BitVec.toNat = (read k).map fun w => match lane with
         | .word => w
         | .half upper => if upper then w / 2 ^ 16 else w % 2 ^ 16
         | .byte b => w / 2 ^ (8 * b.val) % 2 ^ 8)) ∧
  ([PartState.halted, .starting, .running, .stopping].map PartState.code = [0, 1, 2, 3] ∧
   [LineStatus.off, .on, .configBad].map LineStatus.code = [0, 1, 2] ∧
   [LineRefusal.none, .format, .captureRing, .outboundRing].map LineRefusal.code = [0, 1, 2, 3] ∧
   [Parity.none, .even, .odd].map Parity.code = [0, 1, 2] ∧
   [Owner.free, .operator, .script, .lent].map Owner.code = [0, 1, 2, 3] ∧
   [DetectState.none, .queued, .measuring, .verifying].map DetectState.code = [0, 1, 2, 3] ∧
   [DetectOutcome.none, .settled, .settledUnverified, .failed, .cancelled].map DetectOutcome.code = [0, 1, 2, 3, 4] ∧
   (Adoption.none.code = 0 ∧ Adoption.raw.code = 15 ∧ ∀ e, (Adoption.entry e).code = e.val + 1) ∧
   [TriggerState.off, .armed, .counting, .frozen].map TriggerState.code = [0, 1, 2, 3] ∧
   [OutputState.rest, .active, .pulsing].map OutputState.code = [0, 1, 2] ∧
   [PulseEnd.none, .expired, .cut].map PulseEnd.code = [0, 1, 2] ∧
   [RunnerState.idle, .queued, .acting, .waiting, .paused .acting, .paused .waiting].map RunnerState.code
     = [0, 1, 2, 3, 4, 5] ∧
   [TrailExit.success, .alternate, .timeout, .failure, .endedByAbort, .endedByStop, .endedByLineOff, .runaway].map
     TrailExit.code = [0, 1, 2, 3, 4, 5, 6, 7] ∧
   [OutcomeKind.completed, .aborted, .stopped, .lineOff, .runaway].map OutcomeKind.code = [1, 2, 3, 4, 5] ∧
   [FailureReason.none, .locked, .counterZero, .frozen, .detectFailed].map FailureReason.code = [0, 1, 2, 3, 4] ∧
   [ReqResult.none, .accepted, .notIdle, .blockNotReady, .stepRange, .lineOff, .notRunning, .notPaused, .owner, .busy,
     .locked, .scriptRunning, .invalid, .frozen, .unknownCode].map ReqResult.code = List.range 15 ∧
   [StationResult.none, .accepted, .inUse, .badBlock, .badAddress, .unknownCode].map StationResult.code
     = [0, 1, 2, 3, 4, 5] ∧
   [LoadResult.none, .loaded, .checksumBad, .countBad, .stepBad, .patternBad, .memoryFault, .cancelled].map
     LoadResult.code = [0, 1, 2, 3, 4, 5, 6, 7] ∧
   [BlockState.empty, .loading, .ready].map BlockState.code = [0, 1, 2] ∧
   [FaultKind.none, .grant, .access, .error].map FaultKind.code = [0, 1, 2, 3] ∧
   [none, some Client.scanner, some .capture, some .fetcher, some .report, some .loader].map clientCode
     = [0, 1, 2, 3, 4, 5])

/-- A read of the load in progress completes: before transaction 36 the Loader keeps the bytes' records, adds their
words but the Checksum to the Running Sum, remembers the counts and the checksum of transaction 0, and goes on to the
next; after transaction 36 the load concludes, LOADED exactly when the sum agrees, the counts are in range and every
pattern and step passes its checks, with LOAD_CONCLUDED held and the block READY or EMPTY; the first check that fails,
in that order, gives the result and the lowest index that fails it. A stale read is discarded. That after a conclusion
the Running Sum stays (log entry 40) and the remembered counts and checksum are dropped (log entry 43) is the model's
choice. The checks of a step, and the words that a transaction adds to the Running Sum: a known action and wait, a
text of at most 24 bytes for SEND, pattern indexes below the Pattern Count where the action or the wait uses them, and
four exits that are END, or STEP to a step below the Step Count; every word but the Checksum word of transaction 0.
The records that a load's transactions bring: pattern records of 32 bytes from image offset 64, sixteen of them, then
step records of 64 bytes from offset 576, sixty-four of them, 128 bytes of image in each transaction and 64 in the
last. A step record's fields, byte by byte. -/
def Obligations.LoadReads : Prop :=
  (∀ (k : Nat) (bs : List Byte) (t : Transaction) (s : State), s.port.inFlight = some t → t.job = .load k →
     bs.length = t.length →
     let lengthOk (r : PatternRecord) : Prop := 1 ≤ r.length.toNat ∧ r.length.toNat ≤ 24
     let port := { s.port with inFlight := none, tenure := s.port.tenure + 1 }
     (t.stale = true → ∃ u : State, exec (.loadReadComplete bs) s = .next u.settlePort ∧ u = { s with port := port }) ∧
     (t.stale = false → ∀ l, s.store.loader = some l →
       let b := s.block l.block
       let sum := s.store.sum + ((summedWords l.next bs).foldl (· + ·) 0)
       let steps := b.steps ++ loadSteps l.next bs
       let patterns := b.patterns ++ loadPatterns l.next bs
       let first := l.next = 0
       ∃ u : State, exec (.loadReadComplete bs) s = .next u.settlePort ∧ u.lines = s.lines ∧ u.common = s.common ∧
         u.port = port ∧ (∀ c, c ≠ l.block → u.block c = s.block c) ∧
         (l.next ≠ 36 → u.reports = s.reports ∧ u.block l.block = { b with steps := steps, patterns := patterns } ∧
           u.store.sum = sum ∧ u.store.loader = some { l with
             next := l.next + 1
             stepCount := if first then wordAt bs 0 else l.stepCount
             patternCount := if first then wordAt bs 4 else l.patternCount
             checksum := if first then wordAt bs 8 else l.checksum }) ∧
         (l.next = 36 →
           let n := l.stepCount.toNat
           let p := l.patternCount.toNat
           let good : Prop := sum = l.checksum ∧ (1 ≤ n ∧ n ≤ 64 ∧ p ≤ 16) ∧
             (∀ r ∈ patterns.take p, lengthOk r) ∧
             ∀ r ∈ steps.take n, r.ok n p = true
           u.store.loader = none ∧ u.store.loadBlock = l.block.val ∧ u.store.sum = sum ∧
           u.reports = { s.reports with headerDirty := true, heldStation := s.reports.heldStation ||| 0x2 } ∧
           (u.store.loadResult = .loaded ↔ good) ∧
           (good → u.block l.block = { b with
             state := .ready, stepCount := n, patternCount := p, steps := steps, patterns := patterns }) ∧
           (¬ good → u.block l.block = { b with
             state := .empty, stepCount := 0, patternCount := 0, steps := [], patterns := [] }) ∧
           (good → u.store.loadIndex = 0) ∧
           (sum ≠ l.checksum → u.store.loadResult = .checksumBad ∧ u.store.loadIndex = 0) ∧
           (sum = l.checksum → ¬ (1 ≤ n ∧ n ≤ 64 ∧ p ≤ 16) → u.store.loadResult = .countBad ∧ u.store.loadIndex = 0) ∧
           (sum = l.checksum → 1 ≤ n → n ≤ 64 → p ≤ 16 →
             (∀ (i : Nat) (r : PatternRecord), (patterns.take p)[i]? = some r → ¬ lengthOk r →
               (∀ q ∈ patterns.take i, lengthOk q) → u.store.loadResult = .patternBad ∧ u.store.loadIndex = i) ∧
             ((∀ r ∈ patterns.take p, lengthOk r) → ∀ (i : Nat) (r : StepRecord), (steps.take n)[i]? = some r →
               r.ok n p = false → (∀ q ∈ steps.take i, q.ok n p = true) →
               u.store.loadResult = .stepBad ∧ u.store.loadIndex = i))))) ∧
  ((∀ (r : StepRecord) (steps patterns : Nat),
     let a := r.patternA.toNat
     let b := r.patternB.toNat
     let exitOk (e : StepExit) : Prop := e.kind = 0 ∧ e.value.toNat < steps ∨ e.kind = 1
     r.ok steps patterns = true ↔
       (r.action.toNat ≤ 11 ∧ (r.action = 1 → r.textLength.toNat ≤ 24) ∧ (r.action = 8 → a < patterns)) ∧
       (r.wait.toNat ≤ 8 ∧ (r.wait = 1 → a < patterns) ∧ ((r.wait = 2 ∨ r.wait = 3) → a < patterns ∧ b < patterns)) ∧
       exitOk r.success ∧ exitOk r.alternate ∧ exitOk r.timedOut ∧ exitOk r.failure) ∧
   ∀ (k : Nat) (bs : List Byte), summedWords k bs =
     ((List.range (bs.length / 4)).filter fun i => !(k == 0 && i == 2)).map fun i => wordAt bs (4 * i)) ∧
  ((∀ (k : Nat) (bs : List Byte), k ≤ 36 → bs.length = (if k = 36 then 64 else 128) →
     loadPatterns k bs = ((List.range 16).filter fun i => (64 + 32 * i) / 128 = k).map (fun i =>
       patternAt bs ((64 + 32 * i) % 128)) ∧
     loadSteps k bs = ((List.range 64).filter fun i => (576 + 64 * i) / 128 = k).map (fun i =>
       stepAt bs ((576 + 64 * i) % 128))) ∧
   ∀ (bs : List Byte) (k : Nat), stepAt bs k = {
     action := byteAt bs k, wait := byteAt bs (k + 1), patternA := byteAt bs (k + 2), patternB := byteAt bs (k + 3)
     actionArg := wordAt bs (k + 4), waitArg := wordAt bs (k + 8), timeout := wordAt bs (k + 12)
     success := ⟨byteAt bs (k + 16), byteAt bs (k + 17)⟩, alternate := ⟨byteAt bs (k + 18), byteAt bs (k + 19)⟩
     timedOut := ⟨byteAt bs (k + 20), byteAt bs (k + 21)⟩, failure := ⟨byteAt bs (k + 22), byteAt bs (k + 23)⟩
     textLength := byteAt bs (k + 24), text := (bs.drop (k + 32)).take 24 })

/-! ## Invariants -/

/-- At State.reset every invariant stated here holds: the part and the Rate Finder are coherent, Station Base is
aligned, every list of a line and its Dropped are within their bounds. -/
def Obligations.ResetHasTheInvariants : Prop :=
  State.reset.Coherent ∧ State.reset.FinderCoherent ∧ State.reset.BaseAligned ∧ State.reset.Bounded

/-- Every step keeps Station Base a multiple of 256 and every line within its bounds: the history 24, the FIFO 64, the
trail 8, the staging 64 and Dropped 4294967295, with a fetch in flight that reads at most 64 bytes. -/
def Obligations.StepKeepsBounds : Prop :=
  ∀ s t : State, step s = .next t → (s.BaseAligned → t.BaseAligned) ∧ (s.Bounded → t.Bounded)

/-- No step takes a line out of the Lock Set but a pin reset, which empties it. -/
def Obligations.LockSetOnlyGrows : Prop :=
  ∀ s t : State, step s = .next t →
    ((∀ rest, s.pending ≠ .pinReset :: rest) → s.lockSet &&& t.lockSet = s.lockSet) ∧
    ((∃ rest, s.pending = .pinReset :: rest) → t.lockSet = 0)

/-- Every step keeps the part coherent: in particular a locked line's output stays at REST, an OFF line runs no script
and drives no output, and outside RUNNING no line is ON. The Rate Finder's coherence is a premise, for a slot is
granted to whatever line the queue names. -/
def Obligations.StepKeepsCoherent : Prop :=
  ∀ s t : State, s.Coherent → s.FinderCoherent → step s = .next t → t.Coherent

/-- Every step keeps the Rate Finder coherent. -/
def Obligations.StepKeepsFinderCoherent : Prop :=
  ∀ s t : State, s.Coherent → s.FinderCoherent → step s = .next t → t.FinderCoherent

end
end

