-- ==== Sys2Proof/Laws/State.lean ====
section
/-! SUPPORT. What each update of the state leaves as it was, field by field, and what a line reads after an update. -/

namespace Sys2Proof.Machine

/-! ## setLine -/

@[simp] theorem setLine_store (s : State) (n : LineNo) (l : Line) : (s.setLine n l).store = s.store := rfl
@[simp] theorem setLine_scan (s : State) (n : LineNo) (l : Line) : (s.setLine n l).scan = s.scan := rfl
@[simp] theorem setLine_reports (s : State) (n : LineNo) (l : Line) : (s.setLine n l).reports = s.reports := rfl
@[simp] theorem setLine_port (s : State) (n : LineNo) (l : Line) : (s.setLine n l).port = s.port := rfl
@[simp] theorem setLine_notices (s : State) (n : LineNo) (l : Line) : (s.setLine n l).notices = s.notices := rfl
@[simp] theorem setLine_ctl (s : State) (n : LineNo) (l : Line) : (s.setLine n l).ctl = s.ctl := rfl
@[simp] theorem setLine_clock (s : State) (n : LineNo) (l : Line) : (s.setLine n l).clock = s.clock := rfl
@[simp] theorem setLine_linesInUse (s : State) (n : LineNo) (l : Line) : (s.setLine n l).linesInUse = s.linesInUse := rfl
@[simp] theorem setLine_lockSet (s : State) (n : LineNo) (l : Line) : (s.setLine n l).lockSet = s.lockSet := rfl
@[simp] theorem setLine_queue (s : State) (n : LineNo) (l : Line) : (s.setLine n l).queue = s.queue := rfl
@[simp] theorem setLine_slots (s : State) (n : LineNo) (l : Line) : (s.setLine n l).slots = s.slots := rfl
@[simp] theorem setLine_capturePos (s : State) (n : LineNo) (l : Line) : (s.setLine n l).capturePos = s.capturePos := rfl
@[simp] theorem setLine_fetchPos (s : State) (n : LineNo) (l : Line) : (s.setLine n l).fetchPos = s.fetchPos := rfl
@[simp] theorem setLine_pending (s : State) (n : LineNo) (l : Line) : (s.setLine n l).pending = s.pending := rfl

/-! ## modLine -/

@[simp] theorem modLine_store (s : State) (n : LineNo) (f : Line → Line) : (s.modLine n f).store = s.store := rfl
@[simp] theorem modLine_scan (s : State) (n : LineNo) (f : Line → Line) : (s.modLine n f).scan = s.scan := rfl
@[simp] theorem modLine_reports (s : State) (n : LineNo) (f : Line → Line) : (s.modLine n f).reports = s.reports := rfl
@[simp] theorem modLine_port (s : State) (n : LineNo) (f : Line → Line) : (s.modLine n f).port = s.port := rfl
@[simp] theorem modLine_notices (s : State) (n : LineNo) (f : Line → Line) : (s.modLine n f).notices = s.notices := rfl
@[simp] theorem modLine_ctl (s : State) (n : LineNo) (f : Line → Line) : (s.modLine n f).ctl = s.ctl := rfl
@[simp] theorem modLine_clock (s : State) (n : LineNo) (f : Line → Line) : (s.modLine n f).clock = s.clock := rfl
@[simp] theorem modLine_linesInUse (s : State) (n : LineNo) (f : Line → Line) : (s.modLine n f).linesInUse = s.linesInUse := rfl
@[simp] theorem modLine_lockSet (s : State) (n : LineNo) (f : Line → Line) : (s.modLine n f).lockSet = s.lockSet := rfl
@[simp] theorem modLine_queue (s : State) (n : LineNo) (f : Line → Line) : (s.modLine n f).queue = s.queue := rfl
@[simp] theorem modLine_slots (s : State) (n : LineNo) (f : Line → Line) : (s.modLine n f).slots = s.slots := rfl
@[simp] theorem modLine_capturePos (s : State) (n : LineNo) (f : Line → Line) : (s.modLine n f).capturePos = s.capturePos := rfl
@[simp] theorem modLine_fetchPos (s : State) (n : LineNo) (f : Line → Line) : (s.modLine n f).fetchPos = s.fetchPos := rfl
@[simp] theorem modLine_pending (s : State) (n : LineNo) (f : Line → Line) : (s.modLine n f).pending = s.pending := rfl

/-! ## modRun -/

@[simp] theorem modRun_store (s : State) (n : LineNo) (f : Runner → Runner) : (s.modRun n f).store = s.store := rfl
@[simp] theorem modRun_scan (s : State) (n : LineNo) (f : Runner → Runner) : (s.modRun n f).scan = s.scan := rfl
@[simp] theorem modRun_reports (s : State) (n : LineNo) (f : Runner → Runner) : (s.modRun n f).reports = s.reports := rfl
@[simp] theorem modRun_port (s : State) (n : LineNo) (f : Runner → Runner) : (s.modRun n f).port = s.port := rfl
@[simp] theorem modRun_notices (s : State) (n : LineNo) (f : Runner → Runner) : (s.modRun n f).notices = s.notices := rfl
@[simp] theorem modRun_ctl (s : State) (n : LineNo) (f : Runner → Runner) : (s.modRun n f).ctl = s.ctl := rfl
@[simp] theorem modRun_clock (s : State) (n : LineNo) (f : Runner → Runner) : (s.modRun n f).clock = s.clock := rfl
@[simp] theorem modRun_linesInUse (s : State) (n : LineNo) (f : Runner → Runner) : (s.modRun n f).linesInUse = s.linesInUse := rfl
@[simp] theorem modRun_lockSet (s : State) (n : LineNo) (f : Runner → Runner) : (s.modRun n f).lockSet = s.lockSet := rfl
@[simp] theorem modRun_queue (s : State) (n : LineNo) (f : Runner → Runner) : (s.modRun n f).queue = s.queue := rfl
@[simp] theorem modRun_slots (s : State) (n : LineNo) (f : Runner → Runner) : (s.modRun n f).slots = s.slots := rfl
@[simp] theorem modRun_capturePos (s : State) (n : LineNo) (f : Runner → Runner) : (s.modRun n f).capturePos = s.capturePos := rfl
@[simp] theorem modRun_fetchPos (s : State) (n : LineNo) (f : Runner → Runner) : (s.modRun n f).fetchPos = s.fetchPos := rfl
@[simp] theorem modRun_pending (s : State) (n : LineNo) (f : Runner → Runner) : (s.modRun n f).pending = s.pending := rfl

/-! ## modDet -/

@[simp] theorem modDet_store (s : State) (n : LineNo) (f : Detection → Detection) : (s.modDet n f).store = s.store := rfl
@[simp] theorem modDet_scan (s : State) (n : LineNo) (f : Detection → Detection) : (s.modDet n f).scan = s.scan := rfl
@[simp] theorem modDet_reports (s : State) (n : LineNo) (f : Detection → Detection) : (s.modDet n f).reports = s.reports := rfl
@[simp] theorem modDet_port (s : State) (n : LineNo) (f : Detection → Detection) : (s.modDet n f).port = s.port := rfl
@[simp] theorem modDet_notices (s : State) (n : LineNo) (f : Detection → Detection) : (s.modDet n f).notices = s.notices := rfl
@[simp] theorem modDet_ctl (s : State) (n : LineNo) (f : Detection → Detection) : (s.modDet n f).ctl = s.ctl := rfl
@[simp] theorem modDet_clock (s : State) (n : LineNo) (f : Detection → Detection) : (s.modDet n f).clock = s.clock := rfl
@[simp] theorem modDet_linesInUse (s : State) (n : LineNo) (f : Detection → Detection) : (s.modDet n f).linesInUse = s.linesInUse := rfl
@[simp] theorem modDet_lockSet (s : State) (n : LineNo) (f : Detection → Detection) : (s.modDet n f).lockSet = s.lockSet := rfl
@[simp] theorem modDet_queue (s : State) (n : LineNo) (f : Detection → Detection) : (s.modDet n f).queue = s.queue := rfl
@[simp] theorem modDet_slots (s : State) (n : LineNo) (f : Detection → Detection) : (s.modDet n f).slots = s.slots := rfl
@[simp] theorem modDet_capturePos (s : State) (n : LineNo) (f : Detection → Detection) : (s.modDet n f).capturePos = s.capturePos := rfl
@[simp] theorem modDet_fetchPos (s : State) (n : LineNo) (f : Detection → Detection) : (s.modDet n f).fetchPos = s.fetchPos := rfl
@[simp] theorem modDet_pending (s : State) (n : LineNo) (f : Detection → Detection) : (s.modDet n f).pending = s.pending := rfl

/-! ## modCap -/

@[simp] theorem modCap_store (s : State) (n : LineNo) (f : Capture → Capture) : (s.modCap n f).store = s.store := rfl
@[simp] theorem modCap_scan (s : State) (n : LineNo) (f : Capture → Capture) : (s.modCap n f).scan = s.scan := rfl
@[simp] theorem modCap_reports (s : State) (n : LineNo) (f : Capture → Capture) : (s.modCap n f).reports = s.reports := rfl
@[simp] theorem modCap_port (s : State) (n : LineNo) (f : Capture → Capture) : (s.modCap n f).port = s.port := rfl
@[simp] theorem modCap_notices (s : State) (n : LineNo) (f : Capture → Capture) : (s.modCap n f).notices = s.notices := rfl
@[simp] theorem modCap_ctl (s : State) (n : LineNo) (f : Capture → Capture) : (s.modCap n f).ctl = s.ctl := rfl
@[simp] theorem modCap_clock (s : State) (n : LineNo) (f : Capture → Capture) : (s.modCap n f).clock = s.clock := rfl
@[simp] theorem modCap_linesInUse (s : State) (n : LineNo) (f : Capture → Capture) : (s.modCap n f).linesInUse = s.linesInUse := rfl
@[simp] theorem modCap_lockSet (s : State) (n : LineNo) (f : Capture → Capture) : (s.modCap n f).lockSet = s.lockSet := rfl
@[simp] theorem modCap_queue (s : State) (n : LineNo) (f : Capture → Capture) : (s.modCap n f).queue = s.queue := rfl
@[simp] theorem modCap_slots (s : State) (n : LineNo) (f : Capture → Capture) : (s.modCap n f).slots = s.slots := rfl
@[simp] theorem modCap_capturePos (s : State) (n : LineNo) (f : Capture → Capture) : (s.modCap n f).capturePos = s.capturePos := rfl
@[simp] theorem modCap_fetchPos (s : State) (n : LineNo) (f : Capture → Capture) : (s.modCap n f).fetchPos = s.fetchPos := rfl
@[simp] theorem modCap_pending (s : State) (n : LineNo) (f : Capture → Capture) : (s.modCap n f).pending = s.pending := rfl

/-! ## modBlock -/

@[simp] theorem modBlock_lines (s : State) (b : BlockNo) (f : Block → Block) : (s.modBlock b f).lines = s.lines := rfl
@[simp] theorem modBlock_scan (s : State) (b : BlockNo) (f : Block → Block) : (s.modBlock b f).scan = s.scan := rfl
@[simp] theorem modBlock_reports (s : State) (b : BlockNo) (f : Block → Block) : (s.modBlock b f).reports = s.reports := rfl
@[simp] theorem modBlock_port (s : State) (b : BlockNo) (f : Block → Block) : (s.modBlock b f).port = s.port := rfl
@[simp] theorem modBlock_notices (s : State) (b : BlockNo) (f : Block → Block) : (s.modBlock b f).notices = s.notices := rfl
@[simp] theorem modBlock_ctl (s : State) (b : BlockNo) (f : Block → Block) : (s.modBlock b f).ctl = s.ctl := rfl
@[simp] theorem modBlock_clock (s : State) (b : BlockNo) (f : Block → Block) : (s.modBlock b f).clock = s.clock := rfl
@[simp] theorem modBlock_linesInUse (s : State) (b : BlockNo) (f : Block → Block) : (s.modBlock b f).linesInUse = s.linesInUse := rfl
@[simp] theorem modBlock_lockSet (s : State) (b : BlockNo) (f : Block → Block) : (s.modBlock b f).lockSet = s.lockSet := rfl
@[simp] theorem modBlock_queue (s : State) (b : BlockNo) (f : Block → Block) : (s.modBlock b f).queue = s.queue := rfl
@[simp] theorem modBlock_slots (s : State) (b : BlockNo) (f : Block → Block) : (s.modBlock b f).slots = s.slots := rfl
@[simp] theorem modBlock_capturePos (s : State) (b : BlockNo) (f : Block → Block) : (s.modBlock b f).capturePos = s.capturePos := rfl
@[simp] theorem modBlock_fetchPos (s : State) (b : BlockNo) (f : Block → Block) : (s.modBlock b f).fetchPos = s.fetchPos := rfl
@[simp] theorem modBlock_pending (s : State) (b : BlockNo) (f : Block → Block) : (s.modBlock b f).pending = s.pending := rfl

/-! ## mark -/

@[simp] theorem mark_lines (s : State) (n : LineNo) : (s.mark n).lines = s.lines := rfl
@[simp] theorem mark_store (s : State) (n : LineNo) : (s.mark n).store = s.store := rfl
@[simp] theorem mark_scan (s : State) (n : LineNo) : (s.mark n).scan = s.scan := rfl
@[simp] theorem mark_port (s : State) (n : LineNo) : (s.mark n).port = s.port := rfl
@[simp] theorem mark_notices (s : State) (n : LineNo) : (s.mark n).notices = s.notices := rfl
@[simp] theorem mark_ctl (s : State) (n : LineNo) : (s.mark n).ctl = s.ctl := rfl
@[simp] theorem mark_clock (s : State) (n : LineNo) : (s.mark n).clock = s.clock := rfl
@[simp] theorem mark_linesInUse (s : State) (n : LineNo) : (s.mark n).linesInUse = s.linesInUse := rfl
@[simp] theorem mark_lockSet (s : State) (n : LineNo) : (s.mark n).lockSet = s.lockSet := rfl
@[simp] theorem mark_queue (s : State) (n : LineNo) : (s.mark n).queue = s.queue := rfl
@[simp] theorem mark_slots (s : State) (n : LineNo) : (s.mark n).slots = s.slots := rfl
@[simp] theorem mark_capturePos (s : State) (n : LineNo) : (s.mark n).capturePos = s.capturePos := rfl
@[simp] theorem mark_fetchPos (s : State) (n : LineNo) : (s.mark n).fetchPos = s.fetchPos := rfl
@[simp] theorem mark_pending (s : State) (n : LineNo) : (s.mark n).pending = s.pending := rfl

/-! ## markHeader -/

@[simp] theorem markHeader_lines (s : State) : (s.markHeader).lines = s.lines := rfl
@[simp] theorem markHeader_store (s : State) : (s.markHeader).store = s.store := rfl
@[simp] theorem markHeader_scan (s : State) : (s.markHeader).scan = s.scan := rfl
@[simp] theorem markHeader_port (s : State) : (s.markHeader).port = s.port := rfl
@[simp] theorem markHeader_notices (s : State) : (s.markHeader).notices = s.notices := rfl
@[simp] theorem markHeader_ctl (s : State) : (s.markHeader).ctl = s.ctl := rfl
@[simp] theorem markHeader_clock (s : State) : (s.markHeader).clock = s.clock := rfl
@[simp] theorem markHeader_linesInUse (s : State) : (s.markHeader).linesInUse = s.linesInUse := rfl
@[simp] theorem markHeader_lockSet (s : State) : (s.markHeader).lockSet = s.lockSet := rfl
@[simp] theorem markHeader_queue (s : State) : (s.markHeader).queue = s.queue := rfl
@[simp] theorem markHeader_slots (s : State) : (s.markHeader).slots = s.slots := rfl
@[simp] theorem markHeader_capturePos (s : State) : (s.markHeader).capturePos = s.capturePos := rfl
@[simp] theorem markHeader_fetchPos (s : State) : (s.markHeader).fetchPos = s.fetchPos := rfl
@[simp] theorem markHeader_pending (s : State) : (s.markHeader).pending = s.pending := rfl

/-! ## raise -/

@[simp] theorem raise_lines (s : State) (n : LineNo) (c : LineCause) : (s.raise n c).lines = s.lines := rfl
@[simp] theorem raise_store (s : State) (n : LineNo) (c : LineCause) : (s.raise n c).store = s.store := rfl
@[simp] theorem raise_scan (s : State) (n : LineNo) (c : LineCause) : (s.raise n c).scan = s.scan := rfl
@[simp] theorem raise_port (s : State) (n : LineNo) (c : LineCause) : (s.raise n c).port = s.port := rfl
@[simp] theorem raise_notices (s : State) (n : LineNo) (c : LineCause) : (s.raise n c).notices = s.notices := rfl
@[simp] theorem raise_ctl (s : State) (n : LineNo) (c : LineCause) : (s.raise n c).ctl = s.ctl := rfl
@[simp] theorem raise_clock (s : State) (n : LineNo) (c : LineCause) : (s.raise n c).clock = s.clock := rfl
@[simp] theorem raise_linesInUse (s : State) (n : LineNo) (c : LineCause) : (s.raise n c).linesInUse = s.linesInUse := rfl
@[simp] theorem raise_lockSet (s : State) (n : LineNo) (c : LineCause) : (s.raise n c).lockSet = s.lockSet := rfl
@[simp] theorem raise_queue (s : State) (n : LineNo) (c : LineCause) : (s.raise n c).queue = s.queue := rfl
@[simp] theorem raise_slots (s : State) (n : LineNo) (c : LineCause) : (s.raise n c).slots = s.slots := rfl
@[simp] theorem raise_capturePos (s : State) (n : LineNo) (c : LineCause) : (s.raise n c).capturePos = s.capturePos := rfl
@[simp] theorem raise_fetchPos (s : State) (n : LineNo) (c : LineCause) : (s.raise n c).fetchPos = s.fetchPos := rfl
@[simp] theorem raise_pending (s : State) (n : LineNo) (c : LineCause) : (s.raise n c).pending = s.pending := rfl

/-! ## raiseStation -/

@[simp] theorem raiseStation_lines (s : State) (c : StationCause) : (s.raiseStation c).lines = s.lines := rfl
@[simp] theorem raiseStation_store (s : State) (c : StationCause) : (s.raiseStation c).store = s.store := rfl
@[simp] theorem raiseStation_scan (s : State) (c : StationCause) : (s.raiseStation c).scan = s.scan := rfl
@[simp] theorem raiseStation_port (s : State) (c : StationCause) : (s.raiseStation c).port = s.port := rfl
@[simp] theorem raiseStation_notices (s : State) (c : StationCause) : (s.raiseStation c).notices = s.notices := rfl
@[simp] theorem raiseStation_ctl (s : State) (c : StationCause) : (s.raiseStation c).ctl = s.ctl := rfl
@[simp] theorem raiseStation_clock (s : State) (c : StationCause) : (s.raiseStation c).clock = s.clock := rfl
@[simp] theorem raiseStation_linesInUse (s : State) (c : StationCause) : (s.raiseStation c).linesInUse = s.linesInUse := rfl
@[simp] theorem raiseStation_lockSet (s : State) (c : StationCause) : (s.raiseStation c).lockSet = s.lockSet := rfl
@[simp] theorem raiseStation_queue (s : State) (c : StationCause) : (s.raiseStation c).queue = s.queue := rfl
@[simp] theorem raiseStation_slots (s : State) (c : StationCause) : (s.raiseStation c).slots = s.slots := rfl
@[simp] theorem raiseStation_capturePos (s : State) (c : StationCause) : (s.raiseStation c).capturePos = s.capturePos := rfl
@[simp] theorem raiseStation_fetchPos (s : State) (c : StationCause) : (s.raiseStation c).fetchPos = s.fetchPos := rfl
@[simp] theorem raiseStation_pending (s : State) (c : StationCause) : (s.raiseStation c).pending = s.pending := rfl

/-! ## recordLine -/

@[simp] theorem recordLine_lines (s : State) (n : LineNo) (cs : BitVec 12) : (s.recordLine n cs).lines = s.lines := rfl
@[simp] theorem recordLine_store (s : State) (n : LineNo) (cs : BitVec 12) : (s.recordLine n cs).store = s.store := rfl
@[simp] theorem recordLine_scan (s : State) (n : LineNo) (cs : BitVec 12) : (s.recordLine n cs).scan = s.scan := rfl
@[simp] theorem recordLine_reports (s : State) (n : LineNo) (cs : BitVec 12) : (s.recordLine n cs).reports = s.reports := rfl
@[simp] theorem recordLine_port (s : State) (n : LineNo) (cs : BitVec 12) : (s.recordLine n cs).port = s.port := rfl
@[simp] theorem recordLine_ctl (s : State) (n : LineNo) (cs : BitVec 12) : (s.recordLine n cs).ctl = s.ctl := rfl
@[simp] theorem recordLine_clock (s : State) (n : LineNo) (cs : BitVec 12) : (s.recordLine n cs).clock = s.clock := rfl
@[simp] theorem recordLine_linesInUse (s : State) (n : LineNo) (cs : BitVec 12) : (s.recordLine n cs).linesInUse = s.linesInUse := rfl
@[simp] theorem recordLine_lockSet (s : State) (n : LineNo) (cs : BitVec 12) : (s.recordLine n cs).lockSet = s.lockSet := rfl
@[simp] theorem recordLine_queue (s : State) (n : LineNo) (cs : BitVec 12) : (s.recordLine n cs).queue = s.queue := rfl
@[simp] theorem recordLine_slots (s : State) (n : LineNo) (cs : BitVec 12) : (s.recordLine n cs).slots = s.slots := rfl
@[simp] theorem recordLine_capturePos (s : State) (n : LineNo) (cs : BitVec 12) : (s.recordLine n cs).capturePos = s.capturePos := rfl
@[simp] theorem recordLine_fetchPos (s : State) (n : LineNo) (cs : BitVec 12) : (s.recordLine n cs).fetchPos = s.fetchPos := rfl
@[simp] theorem recordLine_pending (s : State) (n : LineNo) (cs : BitVec 12) : (s.recordLine n cs).pending = s.pending := rfl

/-! ## recordStation -/

@[simp] theorem recordStation_lines (s : State) (cs : BitVec 4) : (s.recordStation cs).lines = s.lines := rfl
@[simp] theorem recordStation_store (s : State) (cs : BitVec 4) : (s.recordStation cs).store = s.store := rfl
@[simp] theorem recordStation_scan (s : State) (cs : BitVec 4) : (s.recordStation cs).scan = s.scan := rfl
@[simp] theorem recordStation_reports (s : State) (cs : BitVec 4) : (s.recordStation cs).reports = s.reports := rfl
@[simp] theorem recordStation_port (s : State) (cs : BitVec 4) : (s.recordStation cs).port = s.port := rfl
@[simp] theorem recordStation_ctl (s : State) (cs : BitVec 4) : (s.recordStation cs).ctl = s.ctl := rfl
@[simp] theorem recordStation_clock (s : State) (cs : BitVec 4) : (s.recordStation cs).clock = s.clock := rfl
@[simp] theorem recordStation_linesInUse (s : State) (cs : BitVec 4) : (s.recordStation cs).linesInUse = s.linesInUse := rfl
@[simp] theorem recordStation_lockSet (s : State) (cs : BitVec 4) : (s.recordStation cs).lockSet = s.lockSet := rfl
@[simp] theorem recordStation_queue (s : State) (cs : BitVec 4) : (s.recordStation cs).queue = s.queue := rfl
@[simp] theorem recordStation_slots (s : State) (cs : BitVec 4) : (s.recordStation cs).slots = s.slots := rfl
@[simp] theorem recordStation_capturePos (s : State) (cs : BitVec 4) : (s.recordStation cs).capturePos = s.capturePos := rfl
@[simp] theorem recordStation_fetchPos (s : State) (cs : BitVec 4) : (s.recordStation cs).fetchPos = s.fetchPos := rfl
@[simp] theorem recordStation_pending (s : State) (cs : BitVec 4) : (s.recordStation cs).pending = s.pending := rfl

/-! ## markIf -/

@[simp] theorem markIf_lines (s : State) (n : LineNo) (b : Bool) : (s.markIf n b).lines = s.lines := by cases b <;> rfl
@[simp] theorem markIf_store (s : State) (n : LineNo) (b : Bool) : (s.markIf n b).store = s.store := by cases b <;> rfl
@[simp] theorem markIf_scan (s : State) (n : LineNo) (b : Bool) : (s.markIf n b).scan = s.scan := by cases b <;> rfl
@[simp] theorem markIf_port (s : State) (n : LineNo) (b : Bool) : (s.markIf n b).port = s.port := by cases b <;> rfl
@[simp] theorem markIf_notices (s : State) (n : LineNo) (b : Bool) : (s.markIf n b).notices = s.notices := by cases b <;> rfl
@[simp] theorem markIf_ctl (s : State) (n : LineNo) (b : Bool) : (s.markIf n b).ctl = s.ctl := by cases b <;> rfl
@[simp] theorem markIf_clock (s : State) (n : LineNo) (b : Bool) : (s.markIf n b).clock = s.clock := by cases b <;> rfl
@[simp] theorem markIf_linesInUse (s : State) (n : LineNo) (b : Bool) : (s.markIf n b).linesInUse = s.linesInUse := by cases b <;> rfl
@[simp] theorem markIf_lockSet (s : State) (n : LineNo) (b : Bool) : (s.markIf n b).lockSet = s.lockSet := by cases b <;> rfl
@[simp] theorem markIf_queue (s : State) (n : LineNo) (b : Bool) : (s.markIf n b).queue = s.queue := by cases b <;> rfl
@[simp] theorem markIf_slots (s : State) (n : LineNo) (b : Bool) : (s.markIf n b).slots = s.slots := by cases b <;> rfl
@[simp] theorem markIf_capturePos (s : State) (n : LineNo) (b : Bool) : (s.markIf n b).capturePos = s.capturePos := by cases b <;> rfl
@[simp] theorem markIf_fetchPos (s : State) (n : LineNo) (b : Bool) : (s.markIf n b).fetchPos = s.fetchPos := by cases b <;> rfl
@[simp] theorem markIf_pending (s : State) (n : LineNo) (b : Bool) : (s.markIf n b).pending = s.pending := by cases b <;> rfl

/-! ## raiseIf -/

@[simp] theorem raiseIf_lines (s : State) (n : LineNo) (c : LineCause) (b : Bool) : (s.raiseIf n c b).lines = s.lines := by cases b <;> rfl
@[simp] theorem raiseIf_store (s : State) (n : LineNo) (c : LineCause) (b : Bool) : (s.raiseIf n c b).store = s.store := by cases b <;> rfl
@[simp] theorem raiseIf_scan (s : State) (n : LineNo) (c : LineCause) (b : Bool) : (s.raiseIf n c b).scan = s.scan := by cases b <;> rfl
@[simp] theorem raiseIf_port (s : State) (n : LineNo) (c : LineCause) (b : Bool) : (s.raiseIf n c b).port = s.port := by cases b <;> rfl
@[simp] theorem raiseIf_notices (s : State) (n : LineNo) (c : LineCause) (b : Bool) : (s.raiseIf n c b).notices = s.notices := by cases b <;> rfl
@[simp] theorem raiseIf_ctl (s : State) (n : LineNo) (c : LineCause) (b : Bool) : (s.raiseIf n c b).ctl = s.ctl := by cases b <;> rfl
@[simp] theorem raiseIf_clock (s : State) (n : LineNo) (c : LineCause) (b : Bool) : (s.raiseIf n c b).clock = s.clock := by cases b <;> rfl
@[simp] theorem raiseIf_linesInUse (s : State) (n : LineNo) (c : LineCause) (b : Bool) : (s.raiseIf n c b).linesInUse = s.linesInUse := by cases b <;> rfl
@[simp] theorem raiseIf_lockSet (s : State) (n : LineNo) (c : LineCause) (b : Bool) : (s.raiseIf n c b).lockSet = s.lockSet := by cases b <;> rfl
@[simp] theorem raiseIf_queue (s : State) (n : LineNo) (c : LineCause) (b : Bool) : (s.raiseIf n c b).queue = s.queue := by cases b <;> rfl
@[simp] theorem raiseIf_slots (s : State) (n : LineNo) (c : LineCause) (b : Bool) : (s.raiseIf n c b).slots = s.slots := by cases b <;> rfl
@[simp] theorem raiseIf_capturePos (s : State) (n : LineNo) (c : LineCause) (b : Bool) : (s.raiseIf n c b).capturePos = s.capturePos := by cases b <;> rfl
@[simp] theorem raiseIf_fetchPos (s : State) (n : LineNo) (c : LineCause) (b : Bool) : (s.raiseIf n c b).fetchPos = s.fetchPos := by cases b <;> rfl
@[simp] theorem raiseIf_pending (s : State) (n : LineNo) (c : LineCause) (b : Bool) : (s.raiseIf n c b).pending = s.pending := by cases b <;> rfl

/-! ## Reading a line -/

@[simp] theorem line_setLine_self (s : State) (n : LineNo) (l : Line) : (s.setLine n l).line n = l := by
  simp [State.line, State.setLine, Vector.get_eq_getElem]

theorem line_setLine_ne (s : State) {n m : LineNo} (l : Line) (h : m ≠ n) : (s.setLine n l).line m = s.line m := by
  have h' : n.val ≠ m.val := fun e => h (Fin.ext e.symm)
  simp [State.line, State.setLine, Vector.get_eq_getElem, h']

@[simp] theorem line_modLine_self (s : State) (n : LineNo) (f : Line → Line) : (s.modLine n f).line n = f (s.line n) :=
  line_setLine_self ..

theorem line_modLine_ne (s : State) {n m : LineNo} (f : Line → Line) (h : m ≠ n) : (s.modLine n f).line m = s.line m :=
  line_setLine_ne _ _ h

@[simp] theorem line_modRun_self (s : State) (n : LineNo) (f : Runner → Runner) :
    (s.modRun n f).line n = { s.line n with run := f (s.line n).run } := line_setLine_self ..

theorem line_modRun_ne (s : State) {n m : LineNo} (f : Runner → Runner) (h : m ≠ n) :
    (s.modRun n f).line m = s.line m := line_setLine_ne _ _ h

@[simp] theorem line_modDet_self (s : State) (n : LineNo) (f : Detection → Detection) :
    (s.modDet n f).line n = { s.line n with det := f (s.line n).det } := line_setLine_self ..

theorem line_modDet_ne (s : State) {n m : LineNo} (f : Detection → Detection) (h : m ≠ n) :
    (s.modDet n f).line m = s.line m := line_setLine_ne _ _ h

@[simp] theorem line_modCap_self (s : State) (n : LineNo) (f : Capture → Capture) :
    (s.modCap n f).line n = { s.line n with cap := f (s.line n).cap } := line_setLine_self ..

theorem line_modCap_ne (s : State) {n m : LineNo} (f : Capture → Capture) (h : m ≠ n) :
    (s.modCap n f).line m = s.line m := line_setLine_ne _ _ h

/-- A line reads the same wherever the table of lines is the same. -/
theorem line_congr {s t : State} (h : t.lines = s.lines) (n : LineNo) : t.line n = s.line n := by
  simp [State.line, h]

@[simp] theorem line_mark (s : State) (m n : LineNo) : (s.mark m).line n = s.line n := rfl
@[simp] theorem line_markHeader (s : State) (n : LineNo) : s.markHeader.line n = s.line n := rfl
@[simp] theorem line_raise (s : State) (m : LineNo) (c : LineCause) (n : LineNo) : (s.raise m c).line n = s.line n := rfl
@[simp] theorem line_raiseStation (s : State) (c : StationCause) (n : LineNo) : (s.raiseStation c).line n = s.line n := rfl
@[simp] theorem line_modBlock (s : State) (b : BlockNo) (f : Block → Block) (n : LineNo) :
    (s.modBlock b f).line n = s.line n := rfl
@[simp] theorem line_markIf (s : State) (m : LineNo) (b : Bool) (n : LineNo) : (s.markIf m b).line n = s.line n := by
  cases b <;> rfl
@[simp] theorem line_raiseIf (s : State) (m : LineNo) (c : LineCause) (b : Bool) (n : LineNo) :
    (s.raiseIf m c b).line n = s.line n := by cases b <;> rfl

/-! ## Reading a block -/

@[simp] theorem block_modBlock_self (s : State) (b : BlockNo) (f : Block → Block) :
    (s.modBlock b f).block b = f (s.block b) := by
  simp [State.block, State.modBlock, Vector.get_eq_getElem]

theorem block_modBlock_ne (s : State) {b c : BlockNo} (f : Block → Block) (h : c ≠ b) :
    (s.modBlock b f).block c = s.block c := by
  have h' : b.val ≠ c.val := fun e => h (Fin.ext e.symm)
  simp [State.block, State.modBlock, Vector.get_eq_getElem, h']

theorem block_congr {s t : State} (h : t.store = s.store) (b : BlockNo) : t.block b = s.block b := by
  simp [State.block, h]

end Sys2Proof.Machine
end

