-- ==== Sys2Proof/Laws/Common.lean ====
section
/-! SUPPORT. The operations on lines, blocks and clients leave control, clock, Lock Set, notices, scanner and the queue
of commands as they were. -/

set_option linter.unusedTactic false
set_option linter.unreachableTactic false

namespace Sys2Proof.Machine

/-! ## The updates -/

@[simp] theorem common_setLine (s : State) (n : LineNo) (l : Line) : (s.setLine n l).common = s.common := rfl
@[simp] theorem common_modLine (s : State) (n : LineNo) (f : Line → Line) : (s.modLine n f).common = s.common := rfl
@[simp] theorem common_modRun (s : State) (n : LineNo) (f : Runner → Runner) : (s.modRun n f).common = s.common := rfl
@[simp] theorem common_modDet (s : State) (n : LineNo) (f : Detection → Detection) : (s.modDet n f).common = s.common := rfl
@[simp] theorem common_modCap (s : State) (n : LineNo) (f : Capture → Capture) : (s.modCap n f).common = s.common := rfl
@[simp] theorem common_modBlock (s : State) (b : BlockNo) (f : Block → Block) : (s.modBlock b f).common = s.common := rfl
@[simp] theorem common_mark (s : State) (n : LineNo) : (s.mark n).common = s.common := rfl
@[simp] theorem common_markHeader (s : State) : (s.markHeader).common = s.common := rfl
@[simp] theorem common_raise (s : State) (n : LineNo) (c : LineCause) : (s.raise n c).common = s.common := rfl
@[simp] theorem common_raiseStation (s : State) (c : StationCause) : (s.raiseStation c).common = s.common := rfl
@[simp] theorem common_markIf (s : State) (n : LineNo) (b : Bool) : (s.markIf n b).common = s.common := by cases b <;> rfl
@[simp] theorem common_raiseIf (s : State) (n : LineNo) (c : LineCause) (b : Bool) :
    (s.raiseIf n c b).common = s.common := by cases b <;> rfl

/-! ## The operations -/

@[simp] theorem common_orderPulse (s : State) (n : LineNo) (w : Nat) :
    (s.orderPulse n w).common = s.common := by
  simp [State.orderPulse]

@[simp] theorem common_orderDrive (s : State) (n : LineNo) (o : OutputState) :
    (s.orderDrive n o).common = s.common := by
  simp [State.orderDrive]

@[simp] theorem common_grantSlot (s : State) (n : LineNo) :
    (s.grantSlot n).common = s.common := by
  simp [State.grantSlot]

theorem common_foldl {α : Type} (f : State → α → State) (hf : ∀ s a, (f s a).common = s.common) (xs : List α) (s : State) :
    (xs.foldl f s).common = s.common := by
  induction xs generalizing s with
  | nil => rfl
  | cons x xs ih => simp [ih, hf]

@[simp] theorem common_grantSlots (s : State) :
    (s.grantSlots).common = s.common := by
  simp only [State.grantSlots]
  rw [common_foldl _ (fun s n => common_grantSlot s n)]
  rfl

@[simp] theorem common_leaveFinder (s : State) (n : LineNo) : (s.leaveFinder n).common = s.common := rfl
@[simp] theorem common_joinQueue (s : State) (n : LineNo) : (s.joinQueue n).common = s.common := rfl
@[simp] theorem common_makeStale (s : State) (p : Job → Bool) : (s.makeStale p).common = s.common := rfl
@[simp] theorem common_completed (s : State) : s.completed.common = s.common := rfl
@[simp] theorem common_lowerHold (s : State) : s.lowerHold.common = s.common := rfl

@[simp] theorem common_startDetection (s : State) (n : LineNo) (b : Bool) :
    (s.startDetection n b).common = s.common := by
  simp [State.startDetection]

@[simp] theorem common_cancelDetection (s : State) (n : LineNo) :
    (s.cancelDetection n).common = s.common := by
  simp only [State.cancelDetection]
  repeat' split
  all_goals first | (simp; done) | (simp; rfl) | rfl

@[simp] theorem common_setPeriod (s : State) (n : LineNo) (p : Nat) :
    (s.setPeriod n p).common = s.common := by
  simp [State.setPeriod]

@[simp] theorem common_adopt (s : State) (n : LineNo) (a : Adoption) (p : Nat) :
    (s.adopt n a p).common = s.common := by
  simp [State.adopt]

@[simp] theorem common_requeue (s : State) (n : LineNo) :
    (s.requeue n).common = s.common := by
  simp [State.requeue]

@[simp] theorem common_endDetection (s : State) (n : LineNo) (o : DetectOutcome) :
    (s.endDetection n o).common = s.common := by
  simp [State.endDetection]

@[simp] theorem common_armTrigger (s : State) (n : LineNo) (p : Pattern) (k : Nat) :
    (s.armTrigger n p k).common = s.common := by
  simp [State.armTrigger]

@[simp] theorem common_triggerOff (s : State) (n : LineNo) :
    (s.triggerOff n).common = s.common := by
  simp [State.triggerOff]

@[simp] theorem common_triggerMatched (s : State) (n : LineNo) :
    (s.triggerMatched n).common = s.common := by
  simp [State.triggerMatched]

@[simp] theorem common_offer (s : State) (n : LineNo) (b : Byte) :
    (s.offer n b).common = s.common := by
  simp only [State.offer]
  repeat' split
  all_goals first | (simp; done) | (simp; rfl) | rfl

@[simp] theorem common_raiseJudged (s : State) (n : LineNo) (a b : Capture) :
    (s.raiseJudged n a b).common = s.common := by
  simp [State.raiseJudged]

@[simp] theorem common_applyTaken (s : State) (n : LineNo) (w : Word) :
    (s.applyTaken n w).common = s.common := by
  simp [State.applyTaken]

@[simp] theorem common_keepFifo (s : State) (n : LineNo) (k : Nat) :
    (s.keepFifo n k).common = s.common := by
  simp [State.keepFifo]

@[simp] theorem common_settleFifo (s : State) (n : LineNo) :
    (s.settleFifo n).common = s.common := by
  simp only [State.settleFifo]
  repeat' split
  all_goals first | (simp; done) | (simp; rfl) | rfl

@[simp] theorem common_discardFifo (s : State) (n : LineNo) :
    (s.discardFifo n).common = s.common := by
  simp only [State.discardFifo]
  repeat' split
  all_goals first | (simp; done) | (simp; rfl) | rfl

@[simp] theorem common_captureWritten (s : State) (n : LineNo) (k : Nat) :
    (s.captureWritten n k).common = s.common := by
  simp [State.captureWritten]

@[simp] theorem common_concludeLoad (s : State) (l : Loader) (r : LoadResult) (i : Nat) :
    (s.concludeLoad l r i).common = s.common := by
  simp only [State.concludeLoad, common_raiseStation]
  rfl

@[simp] theorem common_endLoad (s : State) (r : LoadResult) :
    (s.endLoad r).common = s.common := by
  simp only [State.endLoad]
  repeat' split
  all_goals first | (simp; done) | (simp; rfl) | rfl

@[simp] theorem common_loadBytes (s : State) (l : Loader) (bs : List Byte) :
    (s.loadBytes l bs).common = s.common := by
  simp only [State.loadBytes]
  repeat' split
  all_goals first | (simp; done) | (simp; rfl) | rfl

@[simp] theorem common_acceptLoad (s : State) (b : BlockNo) (w : Word) :
    (s.acceptLoad b w).common = s.common := by
  simp [State.acceptLoad]
  rfl

@[simp] theorem common_acceptUnload (s : State) (b : BlockNo) :
    (s.acceptUnload b).common = s.common := by
  simp [State.acceptUnload]

@[simp] theorem common_clientStarts (s : State) (j : Job) :
    (s.clientStarts j).common = s.common := by
  cases j <;> rfl

@[simp] theorem common_startJob (s : State) (j : Job) :
    (s.startJob j).common = s.common := by
  simp only [State.startJob]
  exact common_clientStarts s j

@[simp] theorem common_raiseHold (s : State) :
    (s.raiseHold).common = s.common := by
  simp only [State.raiseHold]
  repeat' split
  all_goals first | (simp; done) | (simp; rfl) | rfl

@[simp] theorem common_settlePort (s : State) :
    (s.settlePort).common = s.common := by
  simp only [State.settlePort]
  repeat' split
  all_goals first | (simp; done) | (simp; rfl) | rfl

@[simp] theorem common_returnCarried (s : State) :
    (s.returnCarried).common = s.common := by
  simp only [State.returnCarried]
  repeat' split
  all_goals first | (simp; done) | (simp; rfl) | rfl

@[simp] theorem common_endRun (s : State) (n : LineNo) (k : OutcomeKind) (c : Byte) (e : TrailExit) :
    (s.endRun n k c e).common = s.common := by
  simp [State.endRun]

@[simp] theorem common_cutRun (s : State) (n : LineNo) (k : OutcomeKind) (e : TrailExit) :
    (s.cutRun n k e).common = s.common := by
  simp [State.cutRun]

@[simp] theorem common_armWait (s : State) (n : LineNo) :
    (s.armWait n).common = s.common := by
  simp [State.armWait]

@[simp] theorem common_startStep (s : State) (n : LineNo) (k : Nat) :
    (s.startStep n k).common = s.common := by
  simp [State.startStep]
/-! ## The runner -/

@[simp] theorem common_actNone (s : State) (n : LineNo) : (s.actNone n).1.common = s.common := by
  simp only [State.actNone]
  repeat' split
  all_goals first | (simp; done) | (simp; rfl) | rfl

@[simp] theorem common_actSend (s : State) (n : LineNo) : (s.actSend n).1.common = s.common := by
  simp only [State.actSend]
  repeat' split
  all_goals first | (simp; done) | (simp; rfl) | rfl

@[simp] theorem common_actBreak (s : State) (n : LineNo) : (s.actBreak n).1.common = s.common := by
  simp only [State.actBreak]
  repeat' split
  all_goals first | (simp; done) | (simp; rfl) | rfl

@[simp] theorem common_actPulse (s : State) (n : LineNo) : (s.actPulse n).1.common = s.common := by
  simp only [State.actPulse]
  repeat' split
  all_goals first | (simp; done) | (simp; rfl) | rfl

@[simp] theorem common_actSetRate (s : State) (n : LineNo) : (s.actSetRate n).1.common = s.common := by
  simp only [State.actSetRate]
  repeat' split
  all_goals first | (simp; done) | (simp; rfl) | rfl

@[simp] theorem common_actDetect (s : State) (n : LineNo) : (s.actDetect n).1.common = s.common := by
  simp only [State.actDetect]
  repeat' split
  all_goals first | (simp; done) | (simp; rfl) | rfl

@[simp] theorem common_actArm (s : State) (n : LineNo) : (s.actArm n).1.common = s.common := by
  simp only [State.actArm]
  repeat' split
  all_goals first | (simp; done) | (simp; rfl) | rfl

@[simp] theorem common_actSignal (s : State) (n : LineNo) : (s.actSignal n).1.common = s.common := by
  simp only [State.actSignal]
  repeat' split
  all_goals first | (simp; done) | (simp; rfl) | rfl

@[simp] theorem common_actLoadCounter (s : State) (n : LineNo) : (s.actLoadCounter n).1.common = s.common := by
  simp only [State.actLoadCounter]
  repeat' split
  all_goals first | (simp; done) | (simp; rfl) | rfl

@[simp] theorem common_actCountDown (s : State) (n : LineNo) : (s.actCountDown n).1.common = s.common := by
  simp only [State.actCountDown]
  repeat' split
  all_goals first | (simp; done) | (simp; rfl) | rfl

@[simp] theorem common_actDrive (s : State) (n : LineNo) (o : OutputState) : (s.actDrive n o).1.common = s.common := by
  simp only [State.actDrive]
  repeat' split
  all_goals first | (simp; done) | (simp; rfl) | rfl

@[simp] theorem common_act (s : State) (n : LineNo) : (s.act n).1.common = s.common := by
  simp only [State.act]
  repeat' split
  all_goals first | (simp; done) | (simp; rfl) | rfl

@[simp] theorem common_endStep (s : State) (n : LineNo) (e : TrailExit) (b : Bool) : (s.endStep n e b).1.common = s.common := by
  simp only [State.endStep]
  repeat' split
  all_goals first | (simp; done) | (simp; rfl) | rfl

@[simp] theorem common_afterAct (s : State) (n : LineNo) (g : Begun) (b : Bool) : (s.afterAct n g b).1.common = s.common := by
  simp only [State.afterAct]
  repeat' split
  all_goals first | (simp; done) | (simp; rfl) | rfl

@[simp] theorem common_beginAct (s : State) (n : LineNo) : (s.beginAct n).1.common = s.common := by
  simp [State.beginAct]

@[simp] theorem common_runSteps (k : Nat) (n : LineNo) (p : State × Option Nat) :
    (State.runSteps k n p).common = p.1.common := by
  induction k generalizing p with
  | zero => rfl
  | succ k ih =>
    obtain ⟨s, o⟩ := p
    cases o with
    | none => rfl
    | some j => simp [State.runSteps, ih]

@[simp] theorem common_follow (n : LineNo) (p : State × Option Nat) : (follow n p).common = p.1.common :=
  common_runSteps ..

@[simp] theorem common_exitStep (s : State) (n : LineNo) (e : TrailExit) : (s.exitStep n e).common = s.common := by
  simp [State.exitStep]

@[simp] theorem common_actionEnded (s : State) (n : LineNo) (a : Action) (f : Option FailureReason) : (s.actionEnded n a f).common = s.common := by
  simp only [State.actionEnded]
  repeat' split
  all_goals first | (simp; done) | (simp; rfl) | rfl

@[simp] theorem common_startIfQueued (s : State) (n : LineNo) : (s.startIfQueued n).common = s.common := by
  simp only [State.startIfQueued]
  repeat' split
  all_goals first | (simp; done) | (simp; rfl) | rfl

@[simp] theorem common_giveOwner (s : State) (n : LineNo) (o : Owner) : (s.giveOwner n o).common = s.common := by
  simp only [State.giveOwner]
  repeat' split
  all_goals first | (simp; done) | (simp; rfl) | rfl

@[simp] theorem common_changeCondition (s : State) (n : LineNo) (c : Condition) : (s.changeCondition n c).common = s.common := by
  simp only [State.changeCondition]
  repeat' split
  all_goals first | (simp; done) | (simp; rfl) | rfl

@[simp] theorem common_concludeDetection (s : State) (n : LineNo) (o : DetectOutcome) : (s.concludeDetection n o).common = s.common := by
  simp only [State.concludeDetection]
  repeat' split
  all_goals first | (simp; done) | (simp; rfl) | rfl

@[simp] theorem common_failAttempt (s : State) (n : LineNo) : (s.failAttempt n).common = s.common := by
  simp only [State.failAttempt]
  repeat' split
  all_goals first | (simp; done) | (simp; rfl) | rfl

@[simp] theorem common_measured (s : State) (n : LineNo) (p : Nat) : (s.measured n p).common = s.common := by
  simp only [State.measured]
  repeat' split
  all_goals first | (simp; done) | (simp; rfl) | rfl

@[simp] theorem common_judgeEdge (s : State) (n : LineNo) : (s.judgeEdge n).common = s.common := by
  simp only [State.judgeEdge]
  repeat' split
  all_goals first | (simp; done) | (simp; rfl) | rfl

/-! ## Lines -/

@[simp] theorem common_lineOff (s : State) (n : LineNo) (k : OutcomeKind) (e : TrailExit) : (s.lineOff n k e).common = s.common := by
  simp only [State.lineOff]
  repeat' split
  all_goals first | (simp; done) | (simp; rfl) | rfl

@[simp] theorem common_lineOn (s : State) (n : LineNo) (h : LineHost) (f : Format) : (s.lineOn n h f).common = s.common := by
  simp only [State.lineOn]
  repeat' split
  all_goals first | (simp; done) | (simp; rfl) | rfl

@[simp] theorem common_applyEnable (s : State) (n : LineNo) (h : LineHost) : (s.applyEnable n h).common = s.common := by
  simp only [State.applyEnable]
  repeat' split
  all_goals first | (simp; done) | (simp; rfl) | rfl

@[simp] theorem common_flowCharacter (s : State) (n : LineNo) (c : Byte) : (s.flowCharacter n c).common = s.common := by
  simp only [State.flowCharacter]
  repeat' split
  all_goals first | (simp; done) | (simp; rfl) | rfl

@[simp] theorem common_verifyCharacter (s : State) (n : LineNo) (a b : Bool) : (s.verifyCharacter n a b).common = s.common := by
  simp only [State.verifyCharacter]
  repeat' split
  all_goals first | (simp; done) | (simp; rfl) | rfl

@[simp] theorem common_runnerCharacter (s : State) (n : LineNo) (m : ScriptMatch) (b : Bool) : (s.runnerCharacter n m b).common = s.common := by
  simp only [State.runnerCharacter]
  repeat' split
  all_goals first | (simp; done) | (simp; rfl) | rfl

@[simp] theorem common_deliver (s : State) (n : LineNo) (c : Byte) (a b : Bool) : (s.deliver n c a b).common = s.common := by
  simp only [State.deliver]
  repeat' split
  all_goals first | (simp; done) | (simp; rfl) | rfl

@[simp] theorem common_breakSeen (s : State) (n : LineNo) : (s.breakSeen n).common = s.common := by
  simp only [State.breakSeen]
  repeat' split
  all_goals first | (simp; done) | (simp; rfl) | rfl

@[simp] theorem common_measureEdge (s : State) (n : LineNo) (k : Nat) (b : Bool) : (s.measureEdge n k b).common = s.common := by
  simp only [State.measureEdge]
  repeat' split
  all_goals first | (simp; done) | (simp; rfl) | rfl

/-! ## Requests -/

@[simp] theorem common_acceptStart (s : State) (n : LineNo) (b : BlockNo) (k : Nat) : (s.acceptStart n b k).common = s.common := by
  simp only [State.acceptStart]
  repeat' split
  all_goals first | (simp; done) | (simp; rfl) | rfl

@[simp] theorem common_acceptPause (s : State) (n : LineNo) (f : PausedFrom) : (s.acceptPause n f).common = s.common := by
  simp only [State.acceptPause]
  repeat' split
  all_goals first | (simp; done) | (simp; rfl) | rfl

@[simp] theorem common_acceptResume (s : State) (n : LineNo) (f : PausedFrom) : (s.acceptResume n f).common = s.common := by
  simp only [State.acceptResume]
  repeat' split
  all_goals first | (simp; done) | (simp; rfl) | rfl

@[simp] theorem common_judgeStart (s : State) (n : LineNo) (a b : Word) : (s.judgeStart n a b).1.common = s.common := by
  simp only [State.judgeStart]
  repeat' split
  all_goals first | (simp; done) | (simp; rfl) | rfl

@[simp] theorem common_judgePause (s : State) (n : LineNo) : (s.judgePause n).1.common = s.common := by
  simp only [State.judgePause]
  repeat' split
  all_goals first | (simp; done) | (simp; rfl) | rfl

@[simp] theorem common_judgeResume (s : State) (n : LineNo) : (s.judgeResume n).1.common = s.common := by
  simp only [State.judgeResume]
  repeat' split
  all_goals first | (simp; done) | (simp; rfl) | rfl

@[simp] theorem common_judgeAbort (s : State) (n : LineNo) : (s.judgeAbort n).1.common = s.common := by
  simp only [State.judgeAbort]
  repeat' split
  all_goals first | (simp; done) | (simp; rfl) | rfl

@[simp] theorem common_judgeBreak (s : State) (n : LineNo) (w : Word) : (s.judgeBreak n w).1.common = s.common := by
  simp only [State.judgeBreak]
  repeat' split
  all_goals first | (simp; done) | (simp; rfl) | rfl

@[simp] theorem common_judgePulse (s : State) (n : LineNo) (w : Word) : (s.judgePulse n w).1.common = s.common := by
  simp only [State.judgePulse]
  repeat' split
  all_goals first | (simp; done) | (simp; rfl) | rfl

@[simp] theorem common_judgeDrive (s : State) (n : LineNo) (o : OutputState) : (s.judgeDrive n o).1.common = s.common := by
  simp only [State.judgeDrive]
  repeat' split
  all_goals first | (simp; done) | (simp; rfl) | rfl

@[simp] theorem common_judgeApply (s : State) (n : LineNo) (h : LineHost) : (s.judgeApply n h).1.common = s.common := by
  simp only [State.judgeApply]
  repeat' split
  all_goals first | (simp; done) | (simp; rfl) | rfl

@[simp] theorem common_judgeDetect (s : State) (n : LineNo) : (s.judgeDetect n).1.common = s.common := by
  simp only [State.judgeDetect]
  repeat' split
  all_goals first | (simp; done) | (simp; rfl) | rfl

@[simp] theorem common_judgeArm (s : State) (n : LineNo) (w : Word) (p : PatternRecord) : (s.judgeArm n w p).1.common = s.common := by
  simp only [State.judgeArm]
  repeat' split
  all_goals first | (simp; done) | (simp; rfl) | rfl

@[simp] theorem common_judgeDisarm (s : State) (n : LineNo) : (s.judgeDisarm n).1.common = s.common := by
  simp only [State.judgeDisarm]
  repeat' split
  all_goals first | (simp; done) | (simp; rfl) | rfl

@[simp] theorem common_judgeThaw (s : State) (n : LineNo) : (s.judgeThaw n).1.common = s.common := by
  simp only [State.judgeThaw]
  repeat' split
  all_goals first | (simp; done) | (simp; rfl) | rfl

@[simp] theorem common_judgeRequest (s : State) (n : LineNo) (h : LineHost) : (s.judgeRequest n h).1.common = s.common := by
  simp only [State.judgeRequest]
  repeat' split
  all_goals first | (simp; done) | (simp; rfl) | rfl

@[simp] theorem common_recordResult (n : LineNo) (w : Word) (p : State × ReqResult) :
    (State.recordResult n w p).common = p.1.common := by simp [State.recordResult]

@[simp] theorem common_examineSlot (s : State) (n : LineNo) (h : LineHost) : (s.examineSlot n h).common = s.common := by
  simp only [State.examineSlot]
  repeat' split
  all_goals first | (simp; done) | (simp; rfl) | rfl

@[simp] theorem common_applyFill (s : State) (n : LineNo) (w : Word) : (s.applyFill n w).common = s.common := by
  simp only [State.applyFill]
  repeat' split
  all_goals first | (simp; done) | (simp; rfl) | rfl

@[simp] theorem common_applyClaim (s : State) (n : LineNo) (a b : Bool) : (s.applyClaim n a b).common = s.common := by
  simp only [State.applyClaim]
  repeat' split
  all_goals first | (simp; done) | (simp; rfl) | rfl

@[simp] theorem common_actOnLine (s : State) (n : LineNo) (h : LineHost) : (s.actOnLine n h).common = s.common := by
  simp only [State.actOnLine]
  repeat' split
  all_goals first | (simp; done) | (simp; rfl) | rfl

@[simp] theorem common_placeFetch (s : State) (n : LineNo) (bs : List Byte) : (s.placeFetch n bs).common = s.common := by
  simp only [State.placeFetch]
  repeat' split
  all_goals first | (simp; done) | (simp; rfl) | rfl

@[simp] theorem common_cutAction (s : State) (n : LineNo) : (s.cutAction n).common = s.common := by
  simp only [State.cutAction]
  repeat' split
  all_goals first | (simp; done) | (simp; rfl) | rfl

@[simp] theorem common_setBegun (s : State) (n : LineNo) : (s.setBegun n).common = s.common := by
  simp only [State.setBegun]
  repeat' split
  all_goals first | (simp; done) | (simp; rfl) | rfl

@[simp] theorem common_sendEnded (s : State) (n : LineNo) : (s.sendEnded n).common = s.common := by
  simp only [State.sendEnded]
  repeat' split
  all_goals first | (simp; done) | (simp; rfl) | rfl

end Sys2Proof.Machine
end

