-- ==== Sys2Proof/Laws/Port.lean ====
section
/-! SUPPORT. What the Memory Port's reaction at the end of an event can do: it moves the port, the report bookkeeping
and the two round-robin pointers, and nothing else. -/

namespace Sys2Proof.Machine

/-- What the port's reaction leaves as it was. -/
structure PortKeeps (s t : State) : Prop where
  lines  : t.lines = s.lines
  store  : t.store = s.store
  queue  : t.queue = s.queue
  slots  : t.slots = s.slots
  common : t.common = s.common

theorem PortKeeps.refl (s : State) : PortKeeps s s := ⟨rfl, rfl, rfl, rfl, rfl⟩

theorem PortKeeps.trans {s t u : State} (a : PortKeeps s t) (b : PortKeeps t u) : PortKeeps s u :=
  ⟨b.lines.trans a.lines, b.store.trans a.store, b.queue.trans a.queue, b.slots.trans a.slots,
    b.common.trans a.common⟩

theorem clientStarts_keeps (s : State) (j : Job) : PortKeeps s (s.clientStarts j) := by
  cases j <;> exact ⟨rfl, rfl, rfl, rfl, rfl⟩

theorem startJob_keeps (s : State) (j : Job) : PortKeeps s (s.startJob j) := by
  have h := clientStarts_keeps s j
  exact ⟨h.lines, h.store, h.queue, h.slots, h.common⟩

theorem raiseHold_keeps (s : State) : PortKeeps s s.raiseHold := by
  unfold State.raiseHold
  repeat' split
  all_goals exact ⟨rfl, rfl, rfl, rfl, rfl⟩

theorem settlePort_keeps (s : State) : PortKeeps s s.settlePort := by
  unfold State.settlePort
  split
  · split
    · exact (raiseHold_keeps s.lowerHold).trans (PortKeeps.refl _) |> fun h => ⟨h.lines, h.store, h.queue, h.slots, h.common⟩
    · split
      · exact startJob_keeps s _
      · exact ⟨rfl, rfl, rfl, rfl, rfl⟩
  · exact raiseHold_keeps s

@[simp] theorem line_settlePort (s : State) (n : LineNo) : s.settlePort.line n = s.line n :=
  line_congr (settlePort_keeps s).lines n

@[simp] theorem block_settlePort (s : State) (b : BlockNo) : s.settlePort.block b = s.block b :=
  block_congr (settlePort_keeps s).store b

/-- While the fault flag is set the reaction starts nothing and does not raise HOLD (R181). -/
theorem settlePort_faulted (s : State) (hf : s.port.flag = true) (hb : s.port.bus = .idle) : s.settlePort = s := by
  simp [State.settlePort, State.raiseHold, hf, hb]

end Sys2Proof.Machine
end

