-- ==== Sys2Proof/Laws/Events.lean ====
section
/-! SUPPORT. Events of one line alone: what an update of a line, with or without a dirty mark or a cause, makes of the
state. -/

namespace Sys2Proof.Machine

theorem LineBecomes.refl (n : LineNo) (s : State) : LineBecomes n s s (s.line n) s.reports :=
  ⟨rfl, rfl, fun _ _ => rfl, rfl⟩

theorem becomes_modLine (n : LineNo) (s : State) (f : Line → Line) :
    LineBecomes n s (s.modLine n f) (f (s.line n)) s.reports :=
  ⟨line_modLine_self s n f, rfl, fun _ h => line_modLine_ne s f h, rfl⟩

theorem becomes_mark (n : LineNo) (s : State) (f : Line → Line) :
    LineBecomes n s ((s.modLine n f).mark n) (f (s.line n)) (s.mark n).reports :=
  ⟨line_modLine_self s n f, rfl, fun _ h => line_modLine_ne s f h, rfl⟩

theorem becomes_raise (n : LineNo) (s : State) (f : Line → Line) (c : LineCause) :
    LineBecomes n s ((s.modLine n f).raise n c) (f (s.line n)) (s.raise n c).reports :=
  ⟨line_modLine_self s n f, rfl, fun _ h => line_modLine_ne s f h, rfl⟩

theorem becomes_markIf (n : LineNo) (s : State) (f : Line → Line) (b : Bool) :
    LineBecomes n s ((s.modLine n f).markIf n b) (f (s.line n)) (s.markIf n b).reports := by
  cases b
  · exact becomes_modLine n s f
  · exact becomes_mark n s f

/-- Two events of one line, one after the other. -/
theorem LineBecomes.trans {n : LineNo} {s t u : State} {l k : Line} {r q : Reports}
    (a : LineBecomes n s t l r) (b : LineBecomes n t u k q) : LineBecomes n s u k q :=
  ⟨b.1, b.2.1, fun m h => (b.2.2.1 m h).trans (a.2.2.1 m h), b.2.2.2.trans a.2.2.2⟩

/-- Two updates of one line are one update. -/
theorem modLine_modLine (s : State) (n : LineNo) (f g : Line → Line) :
    (s.modLine n f).modLine n g = s.modLine n fun l => g (f l) := by
  unfold State.modLine
  rw [line_setLine_self]
  simp [State.setLine, Vector.set_set]

theorem modRun_modRun (s : State) (n : LineNo) (f g : Runner → Runner) :
    (s.modRun n f).modRun n g = s.modRun n fun r => g (f r) :=
  modLine_modLine s n _ _

/-! The level of TXD in each state of the transmitter (R15). -/

@[simp] theorem level_idle (k : Nat) : Tx.level .idle k = true := rfl
@[simp] theorem level_gap (g : Timer) (k : Nat) : Tx.level (.gap g) k = true := rfl
@[simp] theorem level_held (k : Nat) : Tx.level .held k = true := rfl
@[simp] theorem level_brk (b : BreakOrder) (g : Timer) (k : Nat) : Tx.level (.brk b g) k = false := rfl

/-- A start bit is low for its whole transmit period. -/
theorem level_start (c : TxChar) {k : Nat} (h : k < c.period) : Tx.level (.sending c) k = false := by
  simp [Tx.level, TxChar.bits, Nat.div_eq_of_lt h]

/-- Sweep Pending is set once: asking again changes nothing (R162). -/
theorem askSweep_pending (s : State) (h : s.scan.pending = true) : s.askSweep = s := by
  simp [State.askSweep, h]

end Sys2Proof.Machine
end

