-- ==== Sys2Proof/Laws/Others.lean ====
section
/-! SUPPORT. An operation on line n changes nothing of any other line but its detection record, which changes where a
slot freed by line n is granted to it (R29). -/

set_option linter.unusedTactic false
set_option linter.unreachableTactic false

namespace Sys2Proof.Machine

/-- Every line but n, without its detection record. -/
def State.others (s : State) (n : LineNo) : LineNo → Line := fun m =>
  if m = n then .reset else { s.line m with det := .reset }

/-- What `others` says of one line. -/
theorem sameButDetection_of_others {s t : State} {n m : LineNo} (h : t.others n = s.others n) (hm : m ≠ n) :
    (t.line m).SameButDetection (s.line m) := by
  have e := congrFun h m
  simp only [State.others, hm, if_false] at e
  have e' := congrArg (fun l : Line => { l with det := (t.line m).det }) e
  exact e'.symm

/-! ## The updates -/

theorem others_congr {s t : State} (n : LineNo) (h : ∀ m, m ≠ n → t.line m = s.line m) : t.others n = s.others n := by
  funext m
  by_cases e : m = n
  · simp [State.others, e]
  · simp [State.others, e, h m e]

theorem others_lines {s t : State} (n : LineNo) (h : t.lines = s.lines) : t.others n = s.others n :=
  others_congr n fun m _ => line_congr h m

@[simp] theorem others_setLine (s : State) (n : LineNo) (l : Line) : (s.setLine n l).others n = s.others n :=
  others_congr n fun _ h => line_setLine_ne s l h
@[simp] theorem others_modLine (s : State) (n : LineNo) (f : Line → Line) : (s.modLine n f).others n = s.others n :=
  others_setLine ..
@[simp] theorem others_modRun (s : State) (n : LineNo) (f : Runner → Runner) : (s.modRun n f).others n = s.others n :=
  others_setLine ..
@[simp] theorem others_modDet (s : State) (m n : LineNo) (f : Detection → Detection) :
    (s.modDet m f).others n = s.others n := by
  funext k
  by_cases e : k = n
  · simp [State.others, e]
  · by_cases g : k = m
    · subst g; simp [State.others, e]
    · simp [State.others, e, line_modDet_ne s f g]
@[simp] theorem others_modCap (s : State) (n : LineNo) (f : Capture → Capture) : (s.modCap n f).others n = s.others n :=
  others_setLine ..
@[simp] theorem others_modBlock (s : State) (b : BlockNo) (f : Block → Block) (n : LineNo) :
    (s.modBlock b f).others n = s.others n := rfl
@[simp] theorem others_mark (s : State) (m n : LineNo) : (s.mark m).others n = s.others n := rfl
@[simp] theorem others_markHeader (s : State) (n : LineNo) : s.markHeader.others n = s.others n := rfl
@[simp] theorem others_raise (s : State) (m : LineNo) (c : LineCause) (n : LineNo) :
    (s.raise m c).others n = s.others n := rfl
@[simp] theorem others_raiseStation (s : State) (c : StationCause) (n : LineNo) :
    (s.raiseStation c).others n = s.others n := rfl
@[simp] theorem others_markIf (s : State) (m : LineNo) (b : Bool) (n : LineNo) :
    (s.markIf m b).others n = s.others n := by cases b <;> rfl
@[simp] theorem others_raiseIf (s : State) (m : LineNo) (c : LineCause) (b : Bool) (n : LineNo) :
    (s.raiseIf m c b).others n = s.others n := by cases b <;> rfl

/-! ## The operations -/

@[simp] theorem others_orderPulse (s : State) (n : LineNo) (w : Nat) : (s.orderPulse n w).others n = s.others n := by
  simp [State.orderPulse]

@[simp] theorem others_orderDrive (s : State) (n : LineNo) (o : OutputState) :
    (s.orderDrive n o).others n = s.others n := by
  simp [State.orderDrive]

@[simp] theorem others_grantSlot (s : State) (m n : LineNo) : (s.grantSlot m).others n = s.others n := by
  simp [State.grantSlot]

@[simp] theorem others_grantSlots (s : State) (n : LineNo) : s.grantSlots.others n = s.others n := by
  have key : ∀ (xs : List LineNo) (t : State), (xs.foldl State.grantSlot t).others n = t.others n := by
    intro xs
    induction xs with
    | nil => intro t; rfl
    | cons x xs ih => intro t; simp [ih]
  simp only [State.grantSlots]
  rw [key]
  rfl

@[simp] theorem others_leaveFinder (s : State) (m n : LineNo) : (s.leaveFinder m).others n = s.others n := rfl
@[simp] theorem others_joinQueue (s : State) (m n : LineNo) : (s.joinQueue m).others n = s.others n := rfl
@[simp] theorem others_makeStale (s : State) (p : Job → Bool) (n : LineNo) : (s.makeStale p).others n = s.others n := rfl
@[simp] theorem others_completed (s : State) (n : LineNo) : s.completed.others n = s.others n := rfl

@[simp] theorem others_startDetection (s : State) (n : LineNo) (b : Bool) :
    (s.startDetection n b).others n = s.others n := by
  simp [State.startDetection]

@[simp] theorem others_cancelDetection (s : State) (n : LineNo) :
    (s.cancelDetection n).others n = s.others n := by
  simp only [State.cancelDetection]
  repeat' split
  all_goals first | (simp; done) | rfl

@[simp] theorem others_setPeriod (s : State) (n : LineNo) (p : Nat) :
    (s.setPeriod n p).others n = s.others n := by
  simp [State.setPeriod]

@[simp] theorem others_adopt (s : State) (n : LineNo) (a : Adoption) (p : Nat) :
    (s.adopt n a p).others n = s.others n := by
  simp [State.adopt]

@[simp] theorem others_requeue (s : State) (n : LineNo) :
    (s.requeue n).others n = s.others n := by
  simp [State.requeue]

@[simp] theorem others_endDetection (s : State) (n : LineNo) (o : DetectOutcome) :
    (s.endDetection n o).others n = s.others n := by
  simp [State.endDetection]

@[simp] theorem others_armTrigger (s : State) (n : LineNo) (p : Pattern) (k : Nat) :
    (s.armTrigger n p k).others n = s.others n := by
  simp [State.armTrigger]

@[simp] theorem others_triggerOff (s : State) (n : LineNo) :
    (s.triggerOff n).others n = s.others n := by
  simp [State.triggerOff]

@[simp] theorem others_triggerMatched (s : State) (n : LineNo) :
    (s.triggerMatched n).others n = s.others n := by
  simp [State.triggerMatched]

@[simp] theorem others_offer (s : State) (n : LineNo) (b : Byte) :
    (s.offer n b).others n = s.others n := by
  simp only [State.offer]
  repeat' split
  all_goals first | (simp; done) | rfl

@[simp] theorem others_raiseJudged (s : State) (n : LineNo) (a b : Capture) :
    (s.raiseJudged n a b).others n = s.others n := by
  simp [State.raiseJudged]

@[simp] theorem others_applyTaken (s : State) (n : LineNo) (w : Word) :
    (s.applyTaken n w).others n = s.others n := by
  simp [State.applyTaken]

@[simp] theorem others_keepFifo (s : State) (n : LineNo) (k : Nat) :
    (s.keepFifo n k).others n = s.others n := by
  simp [State.keepFifo]

@[simp] theorem others_settleFifo (s : State) (n : LineNo) :
    (s.settleFifo n).others n = s.others n := by
  simp only [State.settleFifo]
  repeat' split
  all_goals first | (simp; done) | rfl

@[simp] theorem others_discardFifo (s : State) (n : LineNo) :
    (s.discardFifo n).others n = s.others n := by
  simp only [State.discardFifo]
  repeat' split
  all_goals first | (simp; done) | rfl

@[simp] theorem others_captureWritten (s : State) (n : LineNo) (k : Nat) :
    (s.captureWritten n k).others n = s.others n := by
  simp [State.captureWritten]

@[simp] theorem others_endRun (s : State) (n : LineNo) (k : OutcomeKind) (c : Byte) (e : TrailExit) :
    (s.endRun n k c e).others n = s.others n := by
  simp [State.endRun]

@[simp] theorem others_cutRun (s : State) (n : LineNo) (k : OutcomeKind) (e : TrailExit) :
    (s.cutRun n k e).others n = s.others n := by
  simp [State.cutRun]

@[simp] theorem others_armWait (s : State) (n : LineNo) :
    (s.armWait n).others n = s.others n := by
  simp [State.armWait]

@[simp] theorem others_startStep (s : State) (n : LineNo) (k : Nat) :
    (s.startStep n k).others n = s.others n := by
  simp [State.startStep]
/-! ## The runner -/

@[simp] theorem others_actNone (s : State) (n : LineNo) : (s.actNone n).1.others n = s.others n := by
  simp only [State.actNone]
  repeat' split
  all_goals first | (simp; done) | rfl

@[simp] theorem others_actSend (s : State) (n : LineNo) : (s.actSend n).1.others n = s.others n := by
  simp only [State.actSend]
  repeat' split
  all_goals first | (simp; done) | rfl

@[simp] theorem others_actBreak (s : State) (n : LineNo) : (s.actBreak n).1.others n = s.others n := by
  simp only [State.actBreak]
  repeat' split
  all_goals first | (simp; done) | rfl

@[simp] theorem others_actPulse (s : State) (n : LineNo) : (s.actPulse n).1.others n = s.others n := by
  simp only [State.actPulse]
  repeat' split
  all_goals first | (simp; done) | rfl

@[simp] theorem others_actSetRate (s : State) (n : LineNo) : (s.actSetRate n).1.others n = s.others n := by
  simp only [State.actSetRate]
  repeat' split
  all_goals first | (simp; done) | rfl

@[simp] theorem others_actDetect (s : State) (n : LineNo) : (s.actDetect n).1.others n = s.others n := by
  simp only [State.actDetect]
  repeat' split
  all_goals first | (simp; done) | rfl

@[simp] theorem others_actArm (s : State) (n : LineNo) : (s.actArm n).1.others n = s.others n := by
  simp only [State.actArm]
  repeat' split
  all_goals first | (simp; done) | rfl

@[simp] theorem others_actSignal (s : State) (n : LineNo) : (s.actSignal n).1.others n = s.others n := by
  simp only [State.actSignal]
  repeat' split
  all_goals first | (simp; done) | rfl

@[simp] theorem others_actLoadCounter (s : State) (n : LineNo) : (s.actLoadCounter n).1.others n = s.others n := by
  simp only [State.actLoadCounter]
  repeat' split
  all_goals first | (simp; done) | rfl

@[simp] theorem others_actCountDown (s : State) (n : LineNo) : (s.actCountDown n).1.others n = s.others n := by
  simp only [State.actCountDown]
  repeat' split
  all_goals first | (simp; done) | rfl

@[simp] theorem others_actDrive (s : State) (n : LineNo) (o : OutputState) : (s.actDrive n o).1.others n = s.others n := by
  simp only [State.actDrive]
  repeat' split
  all_goals first | (simp; done) | rfl

@[simp] theorem others_act (s : State) (n : LineNo) : (s.act n).1.others n = s.others n := by
  simp only [State.act]
  repeat' split
  all_goals first | (simp; done) | rfl

@[simp] theorem others_endStep (s : State) (n : LineNo) (e : TrailExit) (b : Bool) : (s.endStep n e b).1.others n = s.others n := by
  simp only [State.endStep]
  repeat' split
  all_goals first | (simp; done) | rfl

@[simp] theorem others_afterAct (s : State) (n : LineNo) (g : Begun) (b : Bool) : (s.afterAct n g b).1.others n = s.others n := by
  simp only [State.afterAct]
  repeat' split
  all_goals first | (simp; done) | rfl

@[simp] theorem others_beginAct (s : State) (n : LineNo) : (s.beginAct n).1.others n = s.others n := by
  simp [State.beginAct]

@[simp] theorem others_runSteps (k : Nat) (n : LineNo) (p : State × Option Nat) :
    (State.runSteps k n p).others n = p.1.others n := by
  induction k generalizing p with
  | zero => rfl
  | succ k ih =>
    obtain ⟨s, o⟩ := p
    cases o with
    | none => rfl
    | some j => simp [State.runSteps, ih]

@[simp] theorem others_follow (n : LineNo) (p : State × Option Nat) : (follow n p).others n = p.1.others n :=
  others_runSteps ..

@[simp] theorem others_exitStep (s : State) (n : LineNo) (e : TrailExit) : (s.exitStep n e).others n = s.others n := by
  simp [State.exitStep]

@[simp] theorem others_actionEnded (s : State) (n : LineNo) (a : Action) (f : Option FailureReason) : (s.actionEnded n a f).others n = s.others n := by
  simp only [State.actionEnded]
  repeat' split
  all_goals first | (simp; done) | rfl

@[simp] theorem others_startIfQueued (s : State) (n : LineNo) : (s.startIfQueued n).others n = s.others n := by
  simp only [State.startIfQueued]
  repeat' split
  all_goals first | (simp; done) | rfl

@[simp] theorem others_giveOwner (s : State) (n : LineNo) (o : Owner) : (s.giveOwner n o).others n = s.others n := by
  simp only [State.giveOwner]
  repeat' split
  all_goals first | (simp; done) | rfl

@[simp] theorem others_changeCondition (s : State) (n : LineNo) (c : Condition) : (s.changeCondition n c).others n = s.others n := by
  simp only [State.changeCondition]
  repeat' split
  all_goals first | (simp; done) | rfl

@[simp] theorem others_concludeDetection (s : State) (n : LineNo) (o : DetectOutcome) : (s.concludeDetection n o).others n = s.others n := by
  simp only [State.concludeDetection]
  repeat' split
  all_goals first | (simp; done) | rfl

@[simp] theorem others_failAttempt (s : State) (n : LineNo) : (s.failAttempt n).others n = s.others n := by
  simp only [State.failAttempt]
  repeat' split
  all_goals first | (simp; done) | rfl

@[simp] theorem others_measured (s : State) (n : LineNo) (p : Nat) : (s.measured n p).others n = s.others n := by
  simp only [State.measured]
  repeat' split
  all_goals first | (simp; done) | rfl

@[simp] theorem others_judgeEdge (s : State) (n : LineNo) : (s.judgeEdge n).others n = s.others n := by
  simp only [State.judgeEdge]
  repeat' split
  all_goals first | (simp; done) | rfl

/-! ## Lines -/

@[simp] theorem others_lineOff (s : State) (n : LineNo) (k : OutcomeKind) (e : TrailExit) : (s.lineOff n k e).others n = s.others n := by
  simp only [State.lineOff]
  repeat' split
  all_goals first | (simp; done) | rfl

@[simp] theorem others_lineOn (s : State) (n : LineNo) (h : LineHost) (f : Format) : (s.lineOn n h f).others n = s.others n := by
  simp only [State.lineOn]
  repeat' split
  all_goals first | (simp; done) | rfl

@[simp] theorem others_applyEnable (s : State) (n : LineNo) (h : LineHost) : (s.applyEnable n h).others n = s.others n := by
  simp only [State.applyEnable]
  repeat' split
  all_goals first | (simp; done) | rfl

@[simp] theorem others_flowCharacter (s : State) (n : LineNo) (c : Byte) : (s.flowCharacter n c).others n = s.others n := by
  simp only [State.flowCharacter]
  repeat' split
  all_goals first | (simp; done) | rfl

@[simp] theorem others_verifyCharacter (s : State) (n : LineNo) (a b : Bool) : (s.verifyCharacter n a b).others n = s.others n := by
  simp only [State.verifyCharacter]
  repeat' split
  all_goals first | (simp; done) | rfl

@[simp] theorem others_runnerCharacter (s : State) (n : LineNo) (m : ScriptMatch) (b : Bool) : (s.runnerCharacter n m b).others n = s.others n := by
  simp only [State.runnerCharacter]
  repeat' split
  all_goals first | (simp; done) | rfl

@[simp] theorem others_deliver (s : State) (n : LineNo) (c : Byte) (a b : Bool) : (s.deliver n c a b).others n = s.others n := by
  simp only [State.deliver]
  repeat' split
  all_goals first | (simp; done) | rfl

@[simp] theorem others_breakSeen (s : State) (n : LineNo) : (s.breakSeen n).others n = s.others n := by
  simp only [State.breakSeen]
  repeat' split
  all_goals first | (simp; done) | rfl

@[simp] theorem others_measureEdge (s : State) (n : LineNo) (k : Nat) (b : Bool) : (s.measureEdge n k b).others n = s.others n := by
  simp only [State.measureEdge]
  repeat' split
  all_goals first | (simp; done) | rfl

/-! ## Requests -/

@[simp] theorem others_acceptStart (s : State) (n : LineNo) (b : BlockNo) (k : Nat) : (s.acceptStart n b k).others n = s.others n := by
  simp only [State.acceptStart]
  repeat' split
  all_goals first | (simp; done) | rfl

@[simp] theorem others_acceptPause (s : State) (n : LineNo) (f : PausedFrom) : (s.acceptPause n f).others n = s.others n := by
  simp only [State.acceptPause]
  repeat' split
  all_goals first | (simp; done) | rfl

@[simp] theorem others_acceptResume (s : State) (n : LineNo) (f : PausedFrom) : (s.acceptResume n f).others n = s.others n := by
  simp only [State.acceptResume]
  repeat' split
  all_goals first | (simp; done) | rfl

@[simp] theorem others_judgeStart (s : State) (n : LineNo) (a b : Word) : (s.judgeStart n a b).1.others n = s.others n := by
  simp only [State.judgeStart]
  repeat' split
  all_goals first | (simp; done) | rfl

@[simp] theorem others_judgePause (s : State) (n : LineNo) : (s.judgePause n).1.others n = s.others n := by
  simp only [State.judgePause]
  repeat' split
  all_goals first | (simp; done) | rfl

@[simp] theorem others_judgeResume (s : State) (n : LineNo) : (s.judgeResume n).1.others n = s.others n := by
  simp only [State.judgeResume]
  repeat' split
  all_goals first | (simp; done) | rfl

@[simp] theorem others_judgeAbort (s : State) (n : LineNo) : (s.judgeAbort n).1.others n = s.others n := by
  simp only [State.judgeAbort]
  repeat' split
  all_goals first | (simp; done) | rfl

@[simp] theorem others_judgeBreak (s : State) (n : LineNo) (w : Word) : (s.judgeBreak n w).1.others n = s.others n := by
  simp only [State.judgeBreak]
  repeat' split
  all_goals first | (simp; done) | rfl

@[simp] theorem others_judgePulse (s : State) (n : LineNo) (w : Word) : (s.judgePulse n w).1.others n = s.others n := by
  simp only [State.judgePulse]
  repeat' split
  all_goals first | (simp; done) | rfl

@[simp] theorem others_judgeDrive (s : State) (n : LineNo) (o : OutputState) : (s.judgeDrive n o).1.others n = s.others n := by
  simp only [State.judgeDrive]
  repeat' split
  all_goals first | (simp; done) | rfl

@[simp] theorem others_judgeApply (s : State) (n : LineNo) (h : LineHost) : (s.judgeApply n h).1.others n = s.others n := by
  simp only [State.judgeApply]
  repeat' split
  all_goals first | (simp; done) | rfl

@[simp] theorem others_judgeDetect (s : State) (n : LineNo) : (s.judgeDetect n).1.others n = s.others n := by
  simp only [State.judgeDetect]
  repeat' split
  all_goals first | (simp; done) | rfl

@[simp] theorem others_judgeArm (s : State) (n : LineNo) (w : Word) (p : PatternRecord) : (s.judgeArm n w p).1.others n = s.others n := by
  simp only [State.judgeArm]
  repeat' split
  all_goals first | (simp; done) | rfl

@[simp] theorem others_judgeDisarm (s : State) (n : LineNo) : (s.judgeDisarm n).1.others n = s.others n := by
  simp only [State.judgeDisarm]
  repeat' split
  all_goals first | (simp; done) | rfl

@[simp] theorem others_judgeThaw (s : State) (n : LineNo) : (s.judgeThaw n).1.others n = s.others n := by
  simp only [State.judgeThaw]
  repeat' split
  all_goals first | (simp; done) | rfl

@[simp] theorem others_judgeRequest (s : State) (n : LineNo) (h : LineHost) : (s.judgeRequest n h).1.others n = s.others n := by
  simp only [State.judgeRequest]
  repeat' split
  all_goals first | (simp; done) | rfl

@[simp] theorem others_recordResult (n : LineNo) (w : Word) (p : State × ReqResult) :
    (State.recordResult n w p).others n = p.1.others n := by simp [State.recordResult]

@[simp] theorem others_examineSlot (s : State) (n : LineNo) (h : LineHost) : (s.examineSlot n h).others n = s.others n := by
  simp only [State.examineSlot]
  repeat' split
  all_goals first | (simp; done) | rfl

@[simp] theorem others_applyFill (s : State) (n : LineNo) (w : Word) : (s.applyFill n w).others n = s.others n := by
  simp only [State.applyFill]
  repeat' split
  all_goals first | (simp; done) | rfl

@[simp] theorem others_applyClaim (s : State) (n : LineNo) (a b : Bool) : (s.applyClaim n a b).others n = s.others n := by
  simp only [State.applyClaim]
  repeat' split
  all_goals first | (simp; done) | rfl

@[simp] theorem others_actOnLine (s : State) (n : LineNo) (h : LineHost) : (s.actOnLine n h).others n = s.others n := by
  simp only [State.actOnLine]
  repeat' split
  all_goals first | (simp; done) | rfl

@[simp] theorem others_placeFetch (s : State) (n : LineNo) (bs : List Byte) : (s.placeFetch n bs).others n = s.others n := by
  simp only [State.placeFetch]
  repeat' split
  all_goals first | (simp; done) | rfl

@[simp] theorem others_cutAction (s : State) (n : LineNo) : (s.cutAction n).others n = s.others n := by
  simp only [State.cutAction]
  repeat' split
  all_goals first | (simp; done) | rfl

@[simp] theorem others_setBegun (s : State) (n : LineNo) : (s.setBegun n).others n = s.others n := by
  simp only [State.setBegun]
  repeat' split
  all_goals first | (simp; done) | rfl

@[simp] theorem others_sendEnded (s : State) (n : LineNo) : (s.sendEnded n).others n = s.others n := by
  simp only [State.sendEnded]
  repeat' split
  all_goals first | (simp; done) | rfl

@[simp] theorem others_settlePort (s : State) (n : LineNo) : s.settlePort.others n = s.others n :=
  others_lines n (settlePort_keeps s).lines

end Sys2Proof.Machine
end

