-- ==== Sys2Proof/WellFormed.lean ====
section
/-! DEFINITION. Which commands are well formed: the operand checks that the types do not carry already. -/

namespace Sys2Proof

/-- A pattern record has 24 character bytes (R44). -/
def PatternRecord.wf (p : PatternRecord) : Bool := p.chars.length == 24

/-- REGISTER_WRITE_IGNORED stands for the writes R184 and R194 ignore: narrower than a word, to PART_ID, NOTICE or
FAULT_ADDR, or outside the six registers. -/
def ignoredWrite (offset : Nat) (width : Width) : Bool :=
  width != .word || offset == 0x00 || offset == 0x0C || offset == 0x14 || decide (0x18 ≤ offset)

/-- The operand checks of one command. A read completion brings as many bytes as a transaction of its kind has
(R163, R148, R91); an edge comes at least one tick after the edge before it; an unknown code names no request. -/
def Instr.wf : Instr → Bool
  | .registerWriteIgnored off w _ => ignoredWrite off w
  | .rxdFall _ t => decide (1 ≤ t)
  | .rxdRise _ t => decide (1 ≤ t)
  | .headerReadComplete bs => bs.length == 128
  | .lineRecordReadComplete bs => bs.length == 128
  | .startHeaderReadComplete bs => bs.length == 128
  | .outboundFetchComplete bs => decide (1 ≤ bs.length ∧ bs.length ≤ 64)
  | .loadReadComplete bs => bs.length == 128 || bs.length == 64
  | .unknownStationCode _ c => decide (c.toNat = 0 ∨ 2 < c.toNat)
  | .applyRequest _ _ h => h.trigger.wf
  | .armTriggerRequest _ _ _ p => p.wf
  | .unknownCodeRequest _ _ c => decide (c.toNat = 0 ∨ 13 < c.toNat)
  | _ => true

end Sys2Proof
end

