-- ==== Sys2Proof/Laws/Registers.lean ====
section
/-! SUPPORT. A write of the register window always stands for a well-formed command; what a read of it gives. -/

namespace Sys2Proof

theorem controlRow_wf (v : Word) : (controlRow v).wf = true := by
  simp only [controlRow]
  repeat' split
  all_goals rfl

/-- Register offsets are those of words (R194). -/
theorem registerWrite_wf (k : Nat) (width : Width) (v : Word) : (registerWrite (4 * k) width v).wf = true := by
  cases width with
  | half => rfl
  | byte => rfl
  | word =>
    unfold registerWrite
    split
    · rfl
    · exact controlRow_wf v
    · rfl
    · rename_i stationBase control faultState
      have h4 : 4 * k ≠ 0x04 := fun h => stationBase rfl h
      have h8 : 4 * k ≠ 0x08 := fun h => control rfl h
      have h10 : 4 * k ≠ 0x10 := fun h => faultState rfl h
      simp only [Instr.wf, ignoredWrite, Bool.or_eq_true, beq_iff_eq, decide_eq_true_eq]
      omega

namespace Machine

theorem regRead_answered (s : State) (lane : Lane) (k : Nat) (h : s.ctl.inReset = false) :
    s.regRead lane k = some (laneOf lane (s.regWord k)) := by
  simp [State.regRead, State.answers, h]

theorem regRead_inReset (s : State) (lane : Lane) (k : Nat) (h : s.ctl.inReset = true) :
    s.regRead lane k = none := by
  simp [State.regRead, State.answers, h]

end Machine

end Sys2Proof
end

