-- ==== Sys2Proof/Tests/Slice0.lean ====
section
/-! SUPPORT. Tests: ill-formed commands, small facts worked out by hand from the spec, and for every statement with
hypotheses a concrete state and operands that meet them, clause by clause. -/

namespace Sys2Proof.Tests
open Sys2Proof Sys2Proof.Machine

set_option Elab.async false

/-! ## Small states -/

/-- A line that is ON with a 4096-byte capture ring and a 256-byte outbound ring. -/
def onLine : Line :=
  { Line.reset with status := .on, settings := { Settings.reset with captureSize := 4096, outboundSize := 256 } }

def part (p : PartState) : State :=
  { State.reset with ctl := { Control.reset with part := p, base := 0x1000 }, linesInUse := 32 }

def running : State := part .running

/-- The part RUNNING with line 3 as given. -/
def at3 (l : Line) : State := running.setLine 3 l

def flagged (s : State) : State := { s with port := { s.port with flag := true } }

/-- A transaction of a job in flight. -/
def flying (j : Job) (length : Nat) (stale : Bool) (s : State) : State :=
  { s with port := { s.port with bus := .holding, inFlight := some ⟨j, 0x2000, length, [], stale⟩ } }

def zeros (k : Nat) : List Byte := List.replicate k 0

/-- A step with every exit an END of its own code. -/
def aStep : StepRecord :=
  ⟨0, 1, 0, 0, 0, 0, 0, ⟨1, 7⟩, ⟨1, 8⟩, ⟨1, 9⟩, ⟨1, 10⟩, 0, []⟩

def aPattern : PatternRecord := ⟨1, 0, 0, 0, 0x3E :: zeros 23⟩

/-- Block 0 is READY with one step and one pattern. -/
def withStep (st : StepRecord) (s : State) : State :=
  { s with store := { s.store with blocks := s.store.blocks.set 0 ⟨.ready, 1, 1, 0, [st], [aPattern]⟩ } }

/-- Line 3 runs the step: ACTING before its action begins. -/
def actingLine : Line :=
  { onLine with owner := .script, ownerInForce := .script, run := { Runner.reset with state := .acting, begun := false } }

def waitingLine : Line := { actingLine with run := { actingLine.run with state := .waiting, begun := true } }

def acting (st : StepRecord) : State := withStep st (at3 actingLine)
def waiting (st : StepRecord) : State := withStep st (at3 waitingLine)

/-- The state after a command, where it answers a next state. -/
def after (c : Instr) (s : State) : State :=
  match exec c s with
  | .next t => t
  | _ => State.reset

/-! ## Ill-formed commands are refused by WellFormed -/

theorem test_wf_ignored_write : (Instr.registerWriteIgnored 0x08 .word 0).wf = false := by decide
theorem test_wf_ignored_write_narrow : (Instr.registerWriteIgnored 0x08 .byte 0).wf = true := by decide
theorem test_wf_fall_ticks : (Instr.rxdFall 0 0).wf = false := by decide
theorem test_wf_rise_ticks : (Instr.rxdRise 0 0).wf = false := by decide
theorem test_wf_header_bytes : (Instr.headerReadComplete (zeros 127)).wf = false := by decide +kernel
theorem test_wf_line_bytes : (Instr.lineRecordReadComplete []).wf = false := by decide
theorem test_wf_start_bytes : (Instr.startHeaderReadComplete [0]).wf = false := by decide +kernel
theorem test_wf_fetch_bytes : (Instr.outboundFetchComplete []).wf = false := by decide
theorem test_wf_load_bytes : (Instr.loadReadComplete (zeros 65)).wf = false := by decide +kernel
theorem test_wf_station_code : (Instr.unknownStationCode 1 2).wf = false := by decide
theorem test_wf_line_code : (Instr.unknownCodeRequest 0 1 13).wf = false := by decide
theorem test_wf_apply_pattern :
    (Instr.applyRequest 0 1 { lineHostOf (zeros 128) with trigger := ⟨1, 0, 0, 0, []⟩ }).wf = false := by
  decide +kernel
theorem test_wf_arm_pattern : (Instr.armTriggerRequest 0 1 0 ⟨1, 0, 0, 0, []⟩).wf = false := by decide

/-! ## Facts worked out from the spec -/

/-- PART_ID: Part Code 0x0A32, Revision 1, Line Count 32, Block Count 16 (13_record_layouts.md). -/
theorem test_part_id : State.reset.regRead .word 0x00 = some 0x42010A32 := by decide
theorem test_part_id_byte : State.reset.regRead (.byte 1) 0x00 = some 0x0A := by decide
theorem test_control_after_reset : State.reset.regRead .word 0x08 = some 0 := by decide

/-- While RESETN is low a read is not answered; after it rises the registers show the reset values (R193). -/
theorem test_read_in_reset :
    (after .pinReset running).regRead .word 0x00 = none ∧
    (after .resetnRise (after .pinReset running)).regRead .word 0x04 = some 0 := by decide
theorem test_line_part_is_128_bytes : (linePart onLine).length = 128 := by decide +kernel
theorem test_header_part_is_128_bytes : (headerPart running).length = 128 := by decide +kernel
theorem test_word_is_little_endian : wordAt [0x78, 0x56, 0x34, 0x12] 0 = 0x12345678 := by decide

/-- Snapping (R34, R35): an exact rate, one a little long, a doubled run that the second look finds, a rate of no
entry. -/
theorem test_snap_exact : snap 0 30 false 3072 = some (.entry 7, 3072) := by decide +kernel
theorem test_snap_near : snap 0 30 false 3100 = some (.entry 7, 3072) := by decide +kernel
theorem test_snap_second_look : snap 0 30 false 1000 = some (.entry 4, 512) := by
  decide +kernel
theorem test_snap_raw : snap 0xFFF 30 true 5000 = some (.raw, 5000) := by decide +kernel

/-- The bits of 'A' with even parity: start, 1000001, 0, parity 0, stop (R15). -/
theorem test_character_bits :
    (TxChar.bits ⟨0x41, .operator, 3072, .eight, .even, .one, false⟩) =
      [false, true, false, false, false, false, false, true, false, false, true] := by decide

/-- A matched prompt at the start of a line (R54). -/
theorem test_prompt_matches :
    (Pattern.ofRecord { aPattern with lineStart := 1 }).matches 5 [0x0D, 0x0A, 0x3E] = true := by decide
theorem test_prompt_not_at_line_start :
    (Pattern.ofRecord { aPattern with lineStart := 1 }).matches 5 [0x0A, 0x41, 0x3E] = false := by decide

/-- The pending length and the fetch split at the ring end (R148): Sent 0xF0 of a 256-byte ring, 100 pending. -/
theorem test_fetch_split :
    ({ onLine with sent := 0xF0, fillSeen := 0x154 } : Line).fetchLength = 16 := by decide

/-- A HOLD ring of 4096 that is full takes nothing; with 10 bytes of room it takes 10 (R65). -/
theorem test_hold_room :
    ({ onLine with cap := { Capture.reset with head := 4086, fifo := zeros 64 } } : Line).writable = 10 := by
  decide +kernel

/-- The first NOTICE read returns line 3's causes, the second the station's, the third Source 63 (R189). -/
theorem test_notice_order :
    let s := (running.recordStation 0x4)
    let s := { s with notices := { s.notices with lineMask := 0xFFF } }
    let s := s.recordLine 3 0x003
    let a := after (.noticeRead .word) s
    let b := after (.noticeRead .word) a
    let c := after (.noticeRead .word) b
    (a.notices.lastRead, b.notices.lastRead, c.notices.lastRead) = (0x00030003, 0x00200004, 0x003F0000) := by
  decide +kernel

/-- After a recovery with Last Served LOADER the Scanner is first in line (12_worked_sequences.md, A memory fault). -/
theorem test_recovery_serves_the_scanner_first :
    let t := after .holdaRise (after .sweepStart (after (.faultStateWrite 1) (flagged running)))
    t.port.inFlight.map Transaction.job = some .sweepHeader := by decide +kernel

/-- A clearing write and an expiry of the sweep timer leave Sweep Pending set in either order (R182). -/
theorem test_recovery_beside_an_expiry :
    let s := flagged { running with scan := { running.scan with timer := some 0 } }
    (after .sweepTimerExpiry (after (.faultStateWrite 1) s)).scan = { s.scan with pending := true, timer := some 11 } ∧
    (after (.faultStateWrite 1) (after .sweepTimerExpiry s)).scan = { s.scan with pending := true, timer := some 11 } := by
  decide +kernel

/-- A rise on the stop sample's own tick: the character is good whichever is taken first (R52). -/
theorem test_rise_on_the_stop_sample :
    let f : Frame := ⟨16, .eight, .none, 0, true, false :: [true, false, false, false, false, false, true], true, true⟩
    let s := at3 { onLine with rxd := false, frame := some f }
    ((after (.characterDelivered ⟨3, true⟩) s).line 3).cap.fifo = [0x41] ∧
    ((after (.characterDelivered ⟨3, false⟩) (after (.rxdRise 3 152) s)).line 3).cap.fifo = [0x41] ∧
    ((after (.characterDelivered ⟨3, false⟩) s).line 3).garble = 1 := by decide +kernel

/-- A CONTROL write by its bits (R186, R194): RUN, INT_ENABLE, SWEEP_NOW, SOFT_RESET, and Part State ignored. -/
theorem test_control_bits :
    [0x001, 0x006, 0x307, 0x00F].map (registerWrite 0x08 .word) =
      [.runWritten1 false false, .runWritten0 true true, .runWritten1 true true, .softReset 0x00F] := by decide
theorem test_narrow_control_write : registerWrite 0x08 .byte 0x08 = .registerWriteIgnored 0x08 .byte 0x08 := by decide
theorem test_other_writes :
    registerWrite 0x04 .word 0x1234 = .stationBaseWrite 0x1234 ∧ registerWrite 0x10 .word 1 = .faultStateWrite 1 ∧
    registerWrite 0x0C .word 1 = .registerWriteIgnored 0x0C .word 1 := by decide

/-- The level of TXD (R15): the bits of 0x41 with even parity, one period each; low in a break; high with nothing to
send. -/
theorem test_txd :
    let c : TxChar := ⟨0x41, .operator, 32, .seven, .even, .one, false⟩
    let s := at3 { onLine with tx := .sending c }
    (List.range 10).map (fun k => s.txd 3 (32 * k + 31)) =
      [false, true, false, false, false, false, false, true, false, true] ∧
    (at3 { onLine with tx := .brk ⟨10, false⟩ none }).txd 3 0 = false ∧ (at3 onLine).txd 3 0 = true := by decide +kernel

/-- While the fault flag is set the Loader takes no new load (R181). -/
theorem test_no_load_while_faulted :
    after (.loadRequest 1 0 64) (flagged running) = flagged running := by decide +kernel

/-- An UNLOAD of an EMPTY block is accepted (R95). -/
theorem test_unload_empty : (after (.unloadRequest 5 15) running).scan.result = .accepted := by decide +kernel

/-- A step that signals and ends leaves code 7 and raises SCRIPT_SIGNAL and SCRIPT_ENDED (R112, R124). -/
theorem test_signal_and_end :
    let t := after (.signal 3) (acting { aStep with action := 9, wait := 0, actionArg := 300 })
    ((t.line 3).run.signalCode, (t.line 3).run.last.map RunOutcome.code, t.reports.held.get 3) =
      (255, some 7, 0x003) := by decide +kernel

/-- A chain of immediate steps ends RUNAWAY at 64 (R122). -/
theorem test_runaway :
    ((after (.noneAction 3) (acting { aStep with wait := 0, success := ⟨0, 0⟩ })).line 3).run.last.map
      RunOutcome.kind = some .runaway := by decide +kernel

/-- The worked example of a HOLD ring under pressure: 1888 bytes more set Half Reached at Head 13048 (R70). -/
theorem test_hold_example :
    let c : Capture := { Capture.reset with head := 11160, tail := 11000, taken := 11000 }
    let w := c.written .hold 4096 1888
    (c.room 4096, w.head, w.half, dist w.taken w.head) = (3936, 13048, true, 2048) := by decide +kernel

/-- The worked example of a lapped ROLL ring: the write to Head 11104 sets Lapped, Tail is 7008 (R71, R72). -/
theorem test_roll_example :
    let c : Capture := { Capture.reset with head := 11096, tail := 7000, taken := 7000 }
    let w := c.written .roll 4096 8
    (w.head, w.tail, w.lapped) = (11104, 7008, true) := by decide +kernel

/-- The worked example of a freeze: a write of 40 takes 10 of Lead and 30 of Remaining, and 20 more at 20 freeze it
(R75, R76). -/
theorem test_freeze_example :
    let c : Capture := { Capture.reset with trigger := .counting, lead := 10, remaining := 100 }
    let a := c.account 40
    let b := ({ a with remaining := 20 } : Capture).account 20
    (a.lead, a.remaining, a.trigger, b.trigger) = (0, 70, .counting, .frozen) := by decide

/-- The worked example of the checksum (R92). -/
theorem test_checksum_example : sumWords [0x00000002, 0x00000001, 0xFFFFF000, 0x00002345] = 0x00001348 := by decide

/-! ## Witnesses: each statement with hypotheses has a state and operands that meet them, clause by clause -/

def frameOf (samples : List Bool) : Frame := ⟨16, .eight, .none, 0, true, samples, true, true⟩

/-- Line 3 with a whole frame sampled: start, eight data bits, stop. -/
def framed (data : List Bool) (stop : Bool) : Line := { onLine with frame := some (frameOf (false :: data ++ [stop])) }

def high8 : List Bool := [true, false, false, false, false, false, true, false]
def low8 : List Bool := List.replicate 8 false

def sendingChar : TxChar := ⟨0x41, .operator, 3072, .eight, .none, .one, false⟩

def measuringLine (m : Measurement) (counted : Nat) : Line :=
  { onLine with det := { Detection.reset with state := .measuring, meas := m, counted := counted, least := some 3072 } }

theorem witness_StepRunsTheFrontCommand : State.reset.pending = [] := by decide
theorem witness_ResetsSetEverything : running.ctl.inReset = false := by decide
theorem witness_ResetHoldsTheRegisters :
    ({ running with ctl := { running.ctl with inReset := true } } : State).ctl.inReset = true := by decide

theorem witness_RunBit :
    (State.reset.ctl.inReset = false ∧ State.reset.ctl.part = .halted ∧ State.reset.ctl.base = 0) ∧
    ((flagged (part .halted)).ctl.part = .halted ∧ (flagged (part .halted)).port.flag = true) ∧
    ((part .halted).ctl.base ≠ 0 ∧ (part .halted).port.flag = false ∧ (part .halted).port.bus = .idle) ∧
    (part .starting).ctl.part = .starting ∧ (part .stopping).ctl.part = .stopping ∧ running.ctl.part = .running ∧
    (flying .startHeader 128 false (part .starting)).port.inFlight.isSome = true ∧
    (let v : Word := 0x308
     let w : Word := 0x307
     let x : Word := 0x00
     v.getLsbD 3 = true ∧ (w.getLsbD 3 = false ∧ w.getLsbD 0 = true ∧ w.getLsbD 2 = true) ∧ x.getLsbD 0 = false ∧
     (0xFFFFFFF7 : Word) &&& 0xF = w &&& 0xF) := by decide

theorem witness_StopBegins :
    let s := at3 { onLine with status := .configBad }
    (running.ctl.inReset = false ∧ running.ctl.part = .running) ∧
    ((at3 onLine).line 3).status = .on ∧ (s.line 3).status = .configBad ∧
    (after (.loadRequest 1 15 0) running).store.loader.isSome = true ∧
    (let full := at3 { onLine with cap := { Capture.reset with head := 4096, fifo := zeros 2 } }
     let drains := at3 { onLine with status := .off, cap := { Capture.reset with fifo := zeros 2, draining := true } }
     (full.line 3).cap.dropped ≤ 4294967295 ∧ dist (full.line 3).cap.taken (full.line 3).cap.head = 4096 ∧ (full.line 3).settings.captureMode = .hold ∧
     (drains.line 3).cap.draining = true ∧ (drains.line 3).status ≠ .on) ∧
    (flying (.fetch 3) 1 false (at3 onLine)).port.inFlight = some ⟨.fetch 3, 0x2000, 1, [], false⟩ ∧
    (Job.load 0).client = .loader ∧ (Job.sweepLine 3).client = .scanner ∧ (Job.capture 3).client = .capture ∧
    ((waiting aStep).line 3).run.state ≠ .idle ∧ (flagged (at3 onLine)).port.flag = true := by decide +kernel

theorem witness_StopBegins_finder : State.reset.FinderCoherent :=
  ⟨fun n => by simp [State.reset, State.line, Line.reset, Detection.reset],
   fun n => by simp [State.reset, State.line, Line.reset, Detection.reset],
   List.nodup_nil, List.nodup_nil, by decide, Or.inl rfl⟩

theorem witness_SweepStarts :
    (running.ctl.inReset = false ∧ running.scan.position = none ∧ running.port.flag = false) ∧
    (flagged running).port.flag = true ∧ (part .halted).ctl.part ≠ .running ∧
    (let s := { running with scan := { running.scan with position := some .header, timer := some 0 } }
     s.scan.position ≠ none ∧ timerDue s.scan.timer = true ∧ s.ctl.part = .running) ∧
    (let s := { running with scan := { running.scan with timer := some 0 } }
     s.scan.pending = false ∧ s.scan.position = none ∧ timerDue s.scan.timer = true) ∧
    (let s := { running with scan := { running.scan with pending := true, timer := some 0 } }
     s.scan.pending = true ∧ s.scan.position = none ∧ timerDue s.scan.timer = true) := by decide

theorem witness_InterruptFollows :
    State.reset.ctl.inReset = false ∧ exec .lateBusAnswer State.reset = .next State.reset :=
  ⟨by decide, rfl⟩

theorem witness_StationBase :
    (State.reset.ctl.part = .halted ∧ State.reset.ctl.base = 0 ∧ State.reset.ctl.inReset = false) ∧
    running.ctl.part ≠ .halted ∧ running.ctl.inReset = false := by decide

theorem witness_NoticeRead :
    let s : State := { running with notices := { running.notices with lineMask := 0xFFF } }
    let a := s.recordLine 31 0x800
    let b := running.recordStation 0x4
    (a.notices.line.get 31 ≠ 0 ∧ ∀ m : LineNo, m < 31 → a.notices.line.get m = 0) ∧
    ((∀ m : LineNo, b.notices.line.get m = 0) ∧ b.notices.station ≠ 0) ∧
    ((∀ m : LineNo, running.notices.line.get m = 0) ∧ running.notices.station = 0) ∧ s.ctl.inReset = false := by
  decide +kernel

theorem witness_FaultStateWrite :
    let v : Word := 1
    let w : Word := 0xFFFFFFFE
    running.ctl.inReset = false ∧ w.getLsbD 0 = false ∧ v.getLsbD 0 = true ∧ (flagged running).port.flag = true ∧
    running.port.flag = false ∧ running.ctl.part = .running ∧ (part .halted).ctl.part ≠ .running ∧
    (let s := flagged { running with scan := { running.scan with timer := some 0 } }
     s.port.flag = true ∧ s.ctl.part = .running ∧ s.scan.position = none ∧ timerDue s.scan.timer = true) := by decide

theorem witness_TimeBaseAdvance : running.ctl.inReset = false ∧ Clock.reset.cycle = 0 := by decide

theorem witness_RxdEdges :
    let high := at3 onLine
    let spacing := at3 { onLine with condition := .spacing }
    let low (run withheld : Bool) := at3 { onLine with rxd := false, lowRun := run, runWithheld := withheld }
    let lowSpacing := at3 { onLine with rxd := false, condition := .spacing }
    ((running.line 3).rxd = true ∧ (running.line 3).status ≠ .on) ∧
    ((high.line 3).rxd = true ∧ (high.line 3).status = .on ∧ (high.line 3).det.state ≠ .measuring ∧
      (high.line 3).frame = none ∧ (high.line 3).condition = .marking) ∧
    ((spacing.line 3).rxd = true ∧ (spacing.line 3).condition = .spacing) ∧
    ((lowSpacing.line 3).rxd = false ∧ (lowSpacing.line 3).status = .on ∧ (lowSpacing.line 3).condition = .spacing) ∧
    (((low true false).line 3).lowRun = true ∧ ((low true false).line 3).frameTicks ≤ 30720) ∧
    ((low true true).line 3).runWithheld = true ∧
    (30719 < ((low true false).line 3).frameTicks ∧ ((low true false).line 3).runWithheld = false) ∧
    ((low false false).line 3).lowRun = false ∧
    (let m (begun edge rxd : Bool) (counted : Nat) :=
      (at3 { measuringLine ⟨begun, edge, 3072⟩ counted with rxd := rxd }).line 3
     ((m false false true 0).det.state = .measuring ∧ (m false false true 0).det.meas.edge = false ∧
       (m false false true 0).det.meas.begun = false ∧ (m false false true 0).rxd = true) ∧
     ((m true false false 0).det.meas.begun = true ∧ (m true false false 0).det.meas.edge = false ∧
       (m true false false 0).rxd = false) ∧
     ((m true true true 22).det.meas.edge = true ∧ (m true true true 22).det.counted < 23) ∧
     (m true true false 23).det.meas.edge = true) := by decide +kernel

theorem witness_ConditionChanges :
    let a := at3 { onLine with rxd := false, lowRun := true, absentTimer := some 0 }
    let b := at3 { onLine with condition := .spacing, markTimer := some 0 }
    ((a.line 3).status = .on ∧ (a.line 3).run.state ≠ .waiting ∧ (a.line 3).condition = .marking ∧
      (a.line 3).rxd = false ∧ timerDue (a.line 3).absentTimer = true) ∧
    ((b.line 3).condition = .spacing ∧ (b.line 3).rxd = true ∧ timerDue (b.line 3).markTimer = true) ∧
    (let s (wait : Byte) (c : Condition) := withStep { aStep with wait := wait } (at3 { waitingLine with
       condition := c, rxd := c == .spacing, absentTimer := some 0, markTimer := some 0 })
     (((s 8 .marking).line 3).run.state = .waiting ∧ ((s 8 .marking).step 3).wait = 8 ∧
       ((s 8 .marking).line 3).condition = .marking ∧ ((s 8 .marking).line 3).rxd = false) ∧
     (((s 7 .spacing).step 3).wait = 7 ∧ ((s 7 .spacing).line 3).rxd = true) ∧ ((s 4 .marking).step 3).wait ≠ 8) := by
  decide +kernel

theorem witness_FrameTiming :
    let f : Frame := ⟨16, .eight, .none, 0, false, [], true, true⟩
    let a := at3 { onLine with frame := some f }
    let b := at3 { onLine with frame := some f, rxd := false }
    ((a.line 3).status = .on ∧ (a.line 3).frame = some f ∧ f.checked = false ∧ f.samples = [] ∧ (a.line 3).rxd = true) ∧
    (b.line 3).rxd = false ∧ 1 ≤ f.period ∧
    (let g : Frame := { f with samples := [true, false] }
     let h : Frame := { f with samples := [false] }
     ((at3 { onLine with frame := some g }).line 3).frame = some g ∧ g.samples.length ≤ 2 ∧ 1 < g.samples.length ∧
     2 < g.sampleCount ∧ ((at3 { onLine with frame := some h }).line 3).frame = some h) := by decide +kernel

theorem witness_FrameJudgement :
    let f := frameOf []
    high8.length = f.dataCount ∧ ([] : List Bool).length = f.parityCount ∧ (∃ b ∈ high8, b = true) ∧
    (∀ b ∈ low8, b = false) ∧ ([true] : List Bool).length = ({ f with parity := .odd } : Frame).parityCount ∧
    (List.replicate 7 true).length = ({ f with dataBits := .seven } : Frame).dataCount := by decide

theorem witness_CharacterDelivered :
    let judged (l : Line) := (l.frame.getD (frameOf [])).judge
      ((l.frame.getD (frameOf [])).samplesNow ((l.frame.getD (frameOf [])).sampleCount - 1) l.rxd false)
    let a := at3 { framed high8 true with cap := { Capture.reset with fifo := zeros 63 } }
    ((a.line 3).status = .on ∧ (a.line 3).frame.isSome = true ∧ (frameOf []).checked = true ∧
      (a.line 3).run.state ≠ .waiting ∧ (a.line 3).det.state ≠ .verifying ∧ (a.line 3).cap.trigger = .off ∧
      (a.line 3).settings.flow = .none ∧ (a.line 3).cap.fifo.length < 64) ∧
    judged (framed low8 false) = .withheld ∧ judged (framed high8 true) = .good 0x41 ∧
    judged (framed low8 true) = .good 0x00 ∧ judged (framed high8 false) = .errored 0x41 := by decide +kernel

theorem witness_CharacterDelivered_awaited :
    let f : Frame := frameOf (false :: high8 ++ [true])
    let l (wait : MatchPhase → Runner → Runner) := { framed high8 true with run := wait .b waitingLine.run }
    let a := withStep { aStep with wait := 1 } (at3 (l fun _ r => r))
    let b := withStep { aStep with wait := 3 } (at3 (l fun p r => { r with phase := p }))
    let c := withStep { aStep with wait := 5 } (at3 (l fun _ r => { r with countLeft := 1 }))
    ((a.line 3).status = .on ∧ (a.line 3).frame = some f ∧ f.checked = true ∧ (a.line 3).run.state = .waiting ∧
      (a.line 3).det.state ≠ .verifying ∧ (a.line 3).cap.trigger = .off ∧ (a.line 3).settings.flow = .none ∧
      (a.line 3).cap.fifo.length < 64 ∧ f.judge (f.samplesNow (f.sampleCount - 1) (a.line 3).rxd true) = .good 0x41 ∧
      (a.step 3).wait = 1 ∧ (a.line 3).run.phase = .a) ∧
    ((b.step 3).wait = 3 ∧ (b.line 3).run.phase = .b) ∧
    ((c.step 3).wait = 5 ∧ (c.line 3).run.countLeft ≤ 1) ∧
    ((Pattern.ofRecord (a.pattern 3 0)).matches 1 [0x3E] = true ∧
      (Pattern.ofRecord (a.pattern 3 0)).matches 1 [0x41] = false) := by decide +kernel

theorem witness_CharacterDelivered_consumed :
    let f : Frame := frameOf (false :: high8 ++ [true])
    let p : Pattern := ⟨1, [0x41], 0, false, false⟩
    let armed := at3 { framed high8 true with cap := { Capture.reset with trigger := .armed, pattern := some p } }
    let verifying (k : Nat) := at3 { framed high8 true with
      det := { Detection.reset with state := .verifying, verified := k, adoption := .entry 7 } }
    let xonxoff := at3 { framed high8 true with settings := { onLine.settings with flow := .xonxoff } }
    ((armed.line 3).cap.trigger = .armed ∧ (armed.line 3).cap.pattern = some p ∧ (armed.line 3).run.state ≠ .waiting ∧
      (armed.line 3).det.state ≠ .verifying ∧ p.matches 1 [0x41] = true ∧ p.matches 1 [0x42] = false) ∧
    (((verifying 2).line 3).det.state = .verifying ∧ ((verifying 2).line 3).det.verified < 3 ∧ f.counted = true ∧
      3 ≤ ((verifying 3).line 3).det.verified ∧ ({ f with counted := false } : Frame).counted = false) ∧
    ((xonxoff.line 3).settings.flow = .xonxoff ∧ (xonxoff.line 3).cap.trigger = .off) := by decide +kernel

theorem witness_FlowHoldAndOwner :
    let l := { onLine with settings := { onLine.settings with flow := .xonxoff } }
    let a := at3 l
    let b := at3 { l with flowHeld := true, tx := .held }
    ((a.line 3).settings.flow = .xonxoff ∧ (a.line 3).flowHeld = false) ∧
    ((b.line 3).settings.flow = .xonxoff ∧ (b.line 3).flowHeld = true) ∧
    ({ l with tx := .sending sendingChar } : Line).tx.isSending = true ∧
    (let q := at3 { l with run := { Runner.reset with state := .queued } }
     (q.line 3).run.state = .queued ∧ (q.line 3).tx.isSending = false) ∧
    (l.tx.isSending = false ∧ ({ l with ownerInForce := .lent } : Line).ownerInForce = .lent) := by decide +kernel

theorem witness_PatternAgrees :
    let p : Pattern := ⟨2, [0x41, 0x80], 0, true, false⟩
    let c : Byte := 0x7F
    let b : Byte := 0x80
    p.chars[0]? = some 0x41 ∧ (p.chars[1]? = some b ∧ p.wild.getLsbD 1 = false ∧ 0x80 ≤ b.toNat ∧ c.toNat < 0x80) := by
  decide

theorem witness_PatternMatches :
    ({ Pattern.ofRecord aPattern with length := 24 } : Pattern).length ≤ (zeros 24).length ∧
    ({ Pattern.ofRecord { aPattern with lineStart := 1 } with length := 1 } : Pattern).lineStart = true := by decide

theorem witness_FifoOffer :
    let full : Capture := { Capture.reset with fifo := zeros 64 }
    let frozen : Capture := { Capture.reset with trigger := .frozen, dropped := 4294967295 }
    let counting : Capture := { Capture.reset with trigger := .counting, remaining := 2, lead := 1, fifo := zeros 3 }
    frozen.trigger = .frozen ∧
    (counting.trigger = .counting ∧ counting.remaining ≤ counting.fifo.length - counting.lead) ∧
    (full.trigger ≠ .frozen ∧ full.trigger ≠ .counting ∧ 64 ≤ full.fifo.length) ∧
    (Capture.reset.trigger ≠ .frozen ∧ Capture.reset.trigger ≠ .counting ∧ Capture.reset.fifo.length < 64) := by
  decide +kernel

theorem witness_CaptureCounts :
    4294967295 < 4294967296 ∧ Capture.reset.trigger ≠ .frozen ∧
    ({ Capture.reset with trigger := .frozen } : Capture).trigger = .frozen := by decide

theorem witness_CaptureTransaction :
    onLine.settings.captureMode = .hold ∧
    ({ onLine with settings := { onLine.settings with captureMode := .roll } } : Line).settings.captureMode = .roll := by
  decide

theorem witness_CaptureWriteCompletes :
    let a := flying (.capture 3) 1 false (at3 onLine)
    let b := flying (.capture 3) 64 true (at3 onLine)
    a.port.inFlight = some ⟨.capture 3, 0x2000, 1, [], false⟩ ∧
    b.port.inFlight = some ⟨.capture 3, 0x2000, 64, [], true⟩ := by decide +kernel

theorem witness_Snapping :
    look 0 30 3072 = some 7 ∧ (look 0 30 1000 = none ∧ look 0 30 (1000 / 2) = some 4) ∧
    (look 0xFFF 30 3072 = none ∧ look 0xFFF 30 (3072 / 2) = none) := by decide +kernel

theorem witness_RunJudged :
    let l (begun : Bool) (ticks counted : Nat) := measuringLine ⟨begun, true, ticks⟩ counted
    let d (begun : Bool) (ticks counted : Nat) := ((at3 (l begun ticks counted)).line 3).det
    ((d false 0 22).state = .measuring ∧ (d false 0 22).meas.edge = true ∧ (d false 0 22).counted < 23 ∧
      (d false 0 22).meas.begun = false) ∧
    ((d true 15 0).meas.begun = true ∧ (d true 15 0).meas.ticks < 16) ∧
    (131072 ≤ (d true 131072 0).meas.ticks) ∧
    (16 ≤ (d true 16 0).meas.ticks ∧ (d true 131071 0).meas.ticks < 131072) ∧
    ((d true 3072 23).state = .measuring ∧ (d true 3072 23).meas.edge = true ∧ (d true 3072 23).meas.begun = true ∧
      (d true 3072 23).counted = 23 ∧ (d true 3072 23).least = some 3072 ∧ (d true 3072 23).meas.ticks = 3072 ∧
      snap (d true 3072 23).rejected (l true 3072 23).settings.tolerance (l true 3072 23).settings.rawAllowed
        (min 3072 3072) = some (.entry 7, 3072)) := by decide +kernel

theorem witness_RunJudged_failed :
    let l (attempts : Nat) : Line :=
      { measuringLine ⟨true, true, 1000⟩ 23 with det := { (measuringLine ⟨true, true, 1000⟩ 23).det with
        least := some 1000, rejected := 0xFFF, attempts := attempts } }
    let s := at3 (l 2)
    ((s.line 3).det.state = .measuring ∧ (s.line 3).det.meas.edge = true ∧ (s.line 3).det.meas.begun = true ∧
      (s.line 3).det.counted = 23 ∧ (s.line 3).det.least = some 1000 ∧ 16 ≤ (s.line 3).det.meas.ticks ∧
      (s.line 3).det.meas.ticks < 131072 ∧
      snap (s.line 3).det.rejected (s.line 3).settings.tolerance (s.line 3).settings.rawAllowed (min 1000 1000) = none) ∧
    (s.line 3).det.attempts < 3 ∧ 3 ≤ ((at3 (l 3)).line 3).det.attempts := by decide +kernel

theorem witness_DetectLimit :
    let d (st : DetectState) := ((at3 { onLine with det := { Detection.reset with state := st, limit := some 0 } }).line 3).det
    ((d .verifying).state ≠ .none ∧ timerDue (d .verifying).limit = true ∧ (d .verifying).bound = false ∧
      (d .verifying).state = .verifying) ∧
    ((d .queued).state ≠ .none ∧ (d .queued).state ≠ .verifying ∧ timerDue (d .queued).limit = true) ∧
    ({ d .measuring with bound := true } : Detection).bound = true := by decide +kernel

theorem witness_CharacterSent :
    let a := at3 { onLine with owner := .operator, ownerInForce := .operator, staging := [0x41] }
    let b := at3 { onLine with owner := .lent, ownerInForce := .lent, staging := [0x41] }
    let sending : StepRecord := { aStep with action := 1, textLength := 1, text := [0x41] }
    let c := withStep sending (at3 { actingLine with run := { actingLine.run with begun := true } })
    let e (breaks : List BreakOrder) (held : Bool) := at3 { onLine with
      owner := .operator, ownerInForce := .operator, staging := [0x41], tx := .sending sendingChar
      breaks := breaks, flowHeld := held }
    ((a.line 3).status = .on ∧ (a.line 3).tx = .idle ∧ (a.line 3).flowHeld = false ∧
      (a.line 3).ownerInForce = .operator ∧ (a.line 3).staging.head? = some 0x41) ∧
    ((b.line 3).ownerInForce = .lent ∧ (b.line 3).staging.head? = some 0x41) ∧
    ((c.line 3).tx = .idle ∧ (c.line 3).ownerInForce = .script ∧ (c.line 3).run.state = .acting ∧
      (c.line 3).run.begun = true ∧ (c.step 3).action = 1 ∧ (c.line 3).run.textOffset < (c.step 3).textLength.toNat ∧
      (c.step 3).text[(c.line 3).run.textOffset]? = some 0x41) ∧
    ((at3 onLine).line 3).ownerInForce = .free ∧
    (((e [] false).line 3).status = .on ∧ ((e [] false).line 3).tx = .sending sendingChar ∧
      sendingChar.source = .operator ∧ sendingChar.leftover = false ∧
      ((e [] false).line 3).ownerInForce = ((e [] false).line 3).owner ∧ ((e [] false).line 3).owner = .operator ∧
      ((e [] false).line 3).run.state ≠ .queued ∧ ((e [] false).line 3).breaks = [] ∧
      ((e [] false).line 3).flowHeld = false) ∧
    ((e [⟨10, false⟩] true).line 3).breaks = [⟨10, false⟩] ∧ ((e [] true).line 3).flowHeld = true ∧
    (let left : TxChar := { sendingChar with source := .nobody, leftover := true }
     let s := at3 { onLine with tx := .sending left, flowHeld := true }
     (s.line 3).tx = .sending left ∧ left.leftover = true ∧ (s.line 3).flowHeld = true ∧ (s.line 3).breaks = [] ∧
     left.source ≠ .script ∧ (s.line 3).run.state ≠ .queued) := by decide +kernel

theorem witness_CharacterSent_ends :
    let byScript : TxChar := { sendingChar with source := .script }
    let sending (k : Byte) : StepRecord := { aStep with action := 1, textLength := k, text := [0x41, 0x42] }
    let a (k : Byte) := withStep (sending k)
      (at3 { actingLine with tx := .sending byScript, run := { actingLine.run with begun := true } })
    let q := withStep aStep (at3 { onLine with
      tx := .sending sendingChar, owner := .script, ownerInForce := .operator
      run := { Runner.reset with state := .queued } })
    (((a 2).line 3).tx = .sending byScript ∧ byScript.source = .script ∧ ((a 2).line 3).run.state ≠ .queued ∧
      ((a 2).line 3).run.textOffset + 1 ≠ ((a 2).step 3).textLength.toNat ∧
      ((a 1).line 3).run.textOffset + 1 = ((a 1).step 3).textLength.toNat) ∧
    ((q.line 3).tx = .sending sendingChar ∧ sendingChar.source ≠ .script ∧ (q.line 3).run.state = .queued ∧
      (q.line 3).owner = .script) ∧
    (let odd : TxChar := { sendingChar with parity := .odd }
     let s := at3 { onLine with tx := .sending odd }
     (s.line 3).tx = .sending odd ∧ 0 / odd.period = 0 ∧ (1 ≤ 24576 / odd.period ∧ 24576 / odd.period ≤ 8) ∧
     27648 / odd.period = 8 + 1 ∧ 8 + 1 < 30720 / odd.period ∧ ({ odd with parity := .even } : TxChar).parity = .even) ∧
    ((at3 { onLine with tx := .brk ⟨10, false⟩ none }).line 3).tx.isBreak = true := by decide +kernel

theorem witness_LineTimersExpire :
    let a := at3 { onLine with tx := .gap (some 0) }
    let b := at3 { onLine with flowHeld := true, holdTimer := some 0, tx := .held }
    let c := at3 { onLine with tx := .brk ⟨10, false⟩ (some 0), breaks := [⟨5000, false⟩] }
    let d := at3 { onLine with tx := .brk ⟨5000, false⟩ (some 0) }
    let e := at3 { onLine with out := { Output.reset with state := .pulsing, timer := some 0 } }
    ((a.line 3).tx = .gap (some 0) ∧ timerDue (some 0) = true) ∧
    ((b.line 3).flowHeld = true ∧ timerDue (b.line 3).holdTimer = true) ∧
    ((c.line 3).tx = .brk ⟨10, false⟩ (some 0) ∧ (c.line 3).breaks = [⟨5000, false⟩]) ∧
    ((d.line 3).tx = .brk ⟨5000, false⟩ (some 0) ∧ (d.line 3).breaks = []) ∧
    ((e.line 3).out.state = .pulsing ∧ timerDue (e.line 3).out.timer = true ∧ (e.line 3).run.state = .idle) ∧
    (let s := at3 { onLine with tx := .brk ⟨10, true⟩ (some 0) }
     (s.line 3).tx = .brk ⟨10, true⟩ (some 0)) := by decide +kernel

theorem witness_ExpiriesEndTheStep :
    let due (t w : Timer) := { waitingLine with run := { waitingLine.run with stepTimer := t, waitTimer := w } }
    let a := withStep aStep (at3 (due (some 0) none))
    let b := withStep { aStep with wait := 4 } (at3 (due none (some 0)))
    let c := withStep { aStep with wait := 6 } (at3 (due none (some 0)))
    ((a.line 3).tx.isSending = false ∧ (a.line 3).run.state = .waiting ∧ (a.step 3).timedOut = ⟨1, 9⟩ ∧
      timerDue (a.line 3).run.stepTimer = true) ∧
    ((b.step 3).success = ⟨1, 7⟩ ∧ (b.step 3).wait = 4 ∧ timerDue (b.line 3).run.waitTimer = true) ∧
    ((c.step 3).success = ⟨1, 7⟩ ∧ (c.step 3).wait = 6 ∧ timerDue (c.line 3).run.waitTimer = true) := by decide +kernel

theorem witness_ExpiriesEndTheStep_acting :
    let s (a : Byte) := withStep { aStep with action := a }
      (at3 { actingLine with run := { actingLine.run with begun := true, stepTimer := some 0 } })
    let d := at3 { actingLine with det := { Detection.reset with state := .verifying } }
    (((s 2).line 3).run.state = .acting ∧ timerDue ((s 2).line 3).run.stepTimer = true ∧ ((s 2).step 3).action = 2) ∧
    ((s 7).step 3).action = 7 ∧ (((s 1).step 3).action ≠ 2 ∧ ((s 1).step 3).action ≠ 7) ∧
    ((s 7).line 3).det.state = .none ∧ (d.line 3).det.state ≠ .none := by decide +kernel

theorem witness_StepExits :
    let st : StepRecord := { aStep with success := ⟨0, 0⟩ }
    let at63 (k : Nat) := withStep st (at3 { waitingLine with run := { waitingLine.run with immediate := k } })
    (((at63 62).line 3).run.state ≠ .queued ∧ (((at63 62).step 3).exit .success).kind = 0 ∧
      ((at63 62).line 3).run.immediate + 1 < 64) ∧
    64 ≤ ((at63 63).line 3).run.immediate + 1 ∧ (((at63 0).step 3).exit .timeout).kind ≠ 0 ∧
    (((waiting { aStep with timedOut := ⟨2, 9⟩ }).step 3).exit .timeout).kind = 2 := by decide +kernel

theorem witness_StepExits_followed :
    let st : StepRecord := { aStep with wait := 4, success := ⟨0, 1⟩ }
    let base := withStep st (at3 { waitingLine with run := { waitingLine.run with waitTimer := some 0 } })
    let s := base.modBlock 0 fun b => { b with steps := [st, aStep] }
    (s.line 3).run.state = .waiting ∧ timerDue (s.line 3).run.waitTimer = true ∧ (s.step 3).wait = 4 ∧
    (s.step 3).success.kind = 0 ∧ (s.block (s.line 3).run.block).steps[(s.step 3).success.value.toNat]? = some aStep ∧
    aStep.action = 0 ∧ aStep.wait = 1 := by decide +kernel

theorem witness_ImmediateActions :
    let s (a : Byte) := acting { aStep with action := a }
    let lined (l : Line) (a : Byte) := withStep { aStep with action := a } (at3 l)
    (((s 0).line 3).run.state = .acting ∧ ((s 0).line 3).run.begun = false ∧ (s 0).waitHolds 3 = false ∧
      ((s 0).step 3).action = 0) ∧
    (((s 1).step 3).action = 1 ∧ ((s 1).step 3).textLength = 0) ∧
    (((s 4).step 3).action = 4 ∧ ((s 5).step 3).action = 5 ∧ (s 4).locked 3 = false) ∧
    (((s 6).step 3).action = 6 ∧ ((s 8).step 3).action = 8 ∧ ((s 8).line 3).cap.trigger ≠ .frozen) ∧
    (((s 9).step 3).action = 9 ∧ ((s 10).step 3).action = 10) ∧
    (let t := lined { actingLine with run := { actingLine.run with counter := 1 } } 11
     (t.step 3).action = 11 ∧ (t.line 3).run.counter ≠ 0 ∧ (t.line 3).run.state = .acting) ∧
    ((acting { aStep with wait := 7 }).waitHolds 3 = true ∧ (acting { aStep with wait := 8 }).waitHolds 3 = false) := by
  decide +kernel

theorem witness_ActionsThatTakeTime :
    let s (a : Byte) := acting { aStep with action := a, textLength := 24 }
    let lined (l : Line) := withStep { aStep with action := 2 } (at3 l)
    (((s 1).step 3).action = 1 ∧ ((s 1).step 3).textLength ≠ 0 ∧ ((s 1).line 3).run.begun = false) ∧
    (((s 2).step 3).action = 2 ∧ ((s 2).line 3).tx = .idle) ∧
    ((lined { actingLine with tx := .held }).line 3).tx = .held ∧
    ((lined { actingLine with tx := .sending sendingChar }).line 3).tx.isSending = true ∧
    ((lined { actingLine with tx := .brk ⟨10, false⟩ none }).line 3).tx.isBreak = true ∧
    (((s 3).step 3).action = 3 ∧ (s 3).locked 3 = false) ∧
    (((s 7).step 3).action = 7 ∧ ((s 7).line 3).run.state = .acting ∧ ((s 7).line 3).det.state = .none ∧
      (s 7).slots.length < 4 ∧ (s 7).queue = []) ∧
    (let t := withStep { aStep with action := 7 }
      (at3 { actingLine with det := { Detection.reset with state := .verifying } })
     (t.line 3).det.state ≠ .none ∧ 4 ≤ ({ s 7 with slots := [0, 1, 2, 4] } : State).slots.length) := by decide +kernel

theorem witness_ActionsThatTakeTime_end :
    let s (st : RunnerState) (wait : Byte) := withStep { aStep with action := 2, wait := wait }
      (at3 { actingLine with run := { actingLine.run with state := st, begun := true } })
    (((s .acting 1).line 3).run.state = .acting ∧ ((s .acting 1).line 3).run.begun = true ∧
      (s .acting 1).action 3 = some .brk ∧ (s .acting 1).waitHolds 3 = false ∧ (s .acting 0).waitHolds 3 = true) ∧
    (((s (.paused .acting) 1).line 3).run.state = .paused .acting ∧
      ((s (.paused .acting) 1).line 3).run.actionResult = none) ∧
    (((s .waiting 1).line 3).run.state ≠ .acting ∧ ((s .waiting 1).line 3).run.state ≠ .paused .acting) := by
  decide +kernel

theorem witness_FailingActions :
    let s (a : Byte) : State := { acting { aStep with action := a } with lockSet := 0xFFFFFFFF }
    let f := withStep { aStep with action := 8 } (at3 { actingLine with cap := { Capture.reset with trigger := .frozen } })
    (((s 3).line 3).run.state = .acting ∧ ((s 3).line 3).run.begun = false ∧ ((s 3).step 3).failure.kind = 1 ∧
      ((s 3).step 3).action = 3 ∧ (s 3).locked 3 = true) ∧
    (((s 4).step 3).action = 4 ∧ ((s 5).step 3).action = 5) ∧
    (((s 11).step 3).action = 11 ∧ ((s 11).line 3).run.counter = 0) ∧
    ((f.step 3).action = 8 ∧ (f.line 3).cap.trigger = .frozen ∧ (f.step 3).failure.kind = 1) := by decide +kernel

theorem witness_HeaderReadCompletes :
    let tagged (t : Option Word) : State :=
      flying .sweepHeader 128 false { running with scan := { running.scan with tag := t, position := some .header } }
    let h := headerHostOf (zeros 128)
    (zeros 128).length = 128 ∧ (tagged none).port.inFlight = some ⟨.sweepHeader, 0x2000, 128, [], false⟩ ∧
    ((tagged none).scan.tag = none ∧ (tagged none).scan.interval ≠ max 1 (min 1000 h.interval.toNat)) ∧
    (tagged (some 0)).scan.tag = some h.tag ∧
    ((tagged (some 1)).scan.tag ≠ none ∧ (tagged (some 1)).scan.tag ≠ some h.tag ∧
      (tagged (some 1)).store.loader = none ∧ h.code ≠ 1 ∧ h.code ≠ 2) ∧
    (after (.loadRequest 1 15 0) (tagged (some 1))).store.loader.isSome = true ∧
    (flying .sweepHeader 128 true running).port.inFlight = some ⟨.sweepHeader, 0x2000, 128, [], true⟩ ∧
    (let code (k : Byte) : List Byte := zeros 24 ++ k :: zeros 103
     (code 1).length = 128 ∧ (headerHostOf (code 1)).code = 1 ∧ (headerHostOf (code 2)).code = 2 ∧
     (tagged (some 1)).ctl.part = .running ∧ (tagged (some 1)).port.flag = false) := by decide +kernel

theorem witness_LoadRequest :
    let used := withStep aStep running
    let busy : State := used.modBlock 0 fun b => { b with useCount := 1 }
    let w16 : Word := 16
    let w15 : Word := 15
    let a : Word := 64
    let b : Word := 63
    (running.ctl.part = .running ∧ running.store.loader = none) ∧ 16 ≤ w16.toNat ∧ w15.toNat < 16 ∧
    b.toNat % 64 ≠ 0 ∧ a.toNat % 64 = 0 ∧ (busy.block 0).useCount ≠ 0 ∧ (running.block 15).useCount = 0 ∧
    running.port.flag = false ∧ (flagged running).port.flag = true := by
  decide +kernel

theorem witness_UnloadRequest :
    let busy : State := running.modBlock 15 fun b => { b with useCount := 1 }
    (running.ctl.part = .running ∧ running.store.loader = none ∧ running.port.flag = false) ∧
    (busy.block 15).useCount ≠ 0 ∧
    (running.block 0).useCount = 0 := by decide +kernel

theorem witness_UnknownCodes :
    let c3 : Word := 3
    let c0 : Word := 0
    let c14 : Word := 14
    (running.ctl.part = .running ∧ running.store.loader = none ∧ running.port.flag = false ∧ c3 ≠ 1 ∧ c3 ≠ 2) ∧
    (31 < running.linesInUse ∧ c0.toNat = 0 ∧ 13 < c14.toNat) := by decide

theorem witness_UnknownCodes_slot :
    let h (code : Word) : LineHost := { lineHostOf (zeros 128) with tag := 5, code := code }
    let s (tag : Option Word) := at3 { onLine with takenTag := tag }
    let some31 : LineNo := 31
    let few : State := { running with linesInUse := 4 }
    ((s none).line 3).takenTag = none ∧ ((s (some 5)).line 3).takenTag = some (h 0).tag ∧
    (((s (some 4)).line 3).takenTag = some 4 ∧ (4 : Word) ≠ (h 1).tag ∧ (s (some 4)).ctl.part = .running ∧
      3 < (s (some 4)).linesInUse) ∧
    ((h 1).code.toNat = 1 ∧ (h 13).code.toNat = 13 ∧ 13 < (h 14).code.toNat ∧ (h 0).code.toNat = 0) ∧
    (few.linesInUse ≤ 3 + 1 ∧ 2 + 1 < few.linesInUse ∧ some31.val = 31) := by decide +kernel

theorem witness_OffLineRecordRead :
    let s (n : LineNo) (tag : Option Word) := flying (.sweepLine n) 128 false
      (running.setLine n { Line.reset with takenTag := tag, claimSeen := true })
    let p (n : LineNo) : State := { s n none with scan := { (s n none).scan with pending := true } }
    (s 30 none).port.inFlight = some ⟨.sweepLine 30, 0x2000, 128, [], false⟩ ∧
    (((s 30 none).line 30).status = .off ∧ (lineHostOf (zeros 128)).enable = 0 ∧
      ((s 30 none).line 30).cap.draining = false ∧ ((s 30 none).line 30).takenTag = none) ∧
    ((s 30 (some 0)).line 30).takenTag = some (lineHostOf (zeros 128)).tag ∧
    ((s 30 none).line 30).claimSeen ≠ ((lineHostOf (zeros 128)).claim != 0) ∧
    30 + 1 < (s 30 none).linesInUse ∧ (s 31 none).linesInUse ≤ 31 + 1 ∧ (s 31 none).scan.pending = false ∧
    ((p 31).scan.pending = true ∧ (p 31).ctl.part = .running ∧ (p 31).port.flag = false) := by decide +kernel

def goodHost : LineHost :=
  { lineHostOf (zeros 128) with
    enable := 1, dataBits := 8, stopBits := 1, captureSize := 1048576, captureBase := 128, outboundSize := 64
    outboundBase := 64 }

theorem witness_OffLineRecordRead_on :
    let s (stale : Bool) := flying (.sweepLine 3) 128 stale (at3 onLine)
    let m (mode : CaptureMode) := (at3 { onLine with settings := { onLine.settings with captureMode := mode } }).line 3
    ((zeros 128).length = 128 ∧ (s false).port.inFlight = some ⟨.sweepLine 3, 0x2000, 128, [], false⟩ ∧
      (s true).port.inFlight = some ⟨.sweepLine 3, 0x2000, 128, [], true⟩) ∧
    ((m .hold).settings.captureMode = .hold ∧ (m .roll).settings.captureMode = .roll) ∧
    (((at3 onLine).line 3).status = .on ∧ (running.line 3).status ≠ .on) ∧
    (((at3 onLine).line 3).claim ≠ true ∧
      claimOwner ((at3 onLine).line 3).owner true ((at3 onLine).line 3).run.state = some .operator ∧
      claimOwner .free false .idle = none) := by decide +kernel

theorem witness_LineEnabled :
    let fmt : Format := ⟨.eight, .none, .one, .fixed, .none, .hold⟩
    ((running.line 3).status = .off ∧ goodHost.enable ≠ 0 ∧ validate goodHost = .ok fmt ∧ fmt.rateMode = .fixed) ∧
    formatOf { goodHost with parity := 3 } = none ∧
    (formatOf { goodHost with captureSize := 512 } = some fmt ∧ captureRingOk { goodHost with captureSize := 512 } = false) ∧
    (captureRingOk { goodHost with outboundBase := 32 } = true ∧
      outboundRingOk { goodHost with outboundBase := 32 } = false) ∧
    (running.line 3).tx.isSending = false := by decide +kernel

theorem witness_LineEnabled_kept :
    let fmt : Format := ⟨.eight, .none, .one, .detectOnEnable, .none, .hold⟩
    let bad := at3 { onLine with status := .configBad }
    let off : LineHost := { goodHost with enable := 0 }
    let s (slots : List LineNo) : State := { running with slots := slots }
    ((bad.line 3).status = .configBad ∧ off.enable = 0 ∧ goodHost.enable ≠ 0 ∧
      validate { goodHost with flow := 9 } = .error .format ∧ (validate goodHost).isOk = true) ∧
    ((running.line 3).status = .off ∧ ((at3 onLine).line 3).status = .on) ∧
    (validate { goodHost with rateMode := 1 } = .ok fmt ∧ fmt.rateMode = .detectOnEnable ∧
      (s []).slots.length < 4 ∧ (s []).queue = [] ∧ 4 ≤ (s [0, 1, 2, 4]).slots.length) ∧
    (((at3 { waitingLine with tx := .sending sendingChar }).line 3).run.state ≠ .idle ∧
      ((at3 { waitingLine with tx := .sending sendingChar }).line 3).tx = .sending sendingChar) ∧
    (let f (j : Job) := (flying j 1 false running).port.inFlight
     f (.capture 3) = some ⟨.capture 3, 0x2000, 1, [], false⟩ ∧ f (.fetch 3) = some ⟨.fetch 3, 0x2000, 1, [], false⟩ ∧
     ((running.setLine 3 { Line.reset with tx := .sending sendingChar }).line 3).tx = .sending sendingChar) := by
  decide +kernel

theorem witness_StartRequest :
    let s (o : Owner) := withStep aStep (at3 { onLine with owner := o, ownerInForce := o })
    let e1 : Word := 1
    let w16 : Word := 16
    (running.ctl.part = .running ∧ 31 < running.linesInUse) ∧ ((waiting aStep).line 3).run.state ≠ .idle ∧
    (((s .operator).line 3).run.state = .idle ∧ 16 ≤ w16.toNat) ∧
    (((s .operator).block 0).state = .ready ∧ ((s .operator).block 1).state ≠ .ready ∧
      ((s .operator).block 0).stepCount ≤ e1.toNat ∧ 0 < ((s .operator).block 0).stepCount) ∧
    ((withStep aStep running).line 3).status ≠ .on ∧
    (((s .operator).line 3).status = .on ∧ ((s .operator).line 3).owner = .operator) ∧
    (((s .free).line 3).owner = .free ∧ ((s .free).line 3).ownerInForce = .free ∧
      ((s .free).line 3).tx.isSending = false ∧ ((s .free).block 0).steps[0]? = some aStep ∧ aStep.action = 0 ∧
      aStep.wait = 1) ∧
    (let w (wait : Byte) (c : Condition) := withStep { aStep with wait := wait, waitArg := 1 }
       (at3 { onLine with condition := c })
     [2, 3, 4, 5, 6].all (fun k => ((w k .marking).block 0).steps.map StepRecord.wait == [k]) = true ∧
     ((w 5 .marking).block 0).steps.map StepRecord.waitArg = [1] ∧
     (((w 7 .spacing).block 0).steps.map StepRecord.wait = [7] ∧ ((w 7 .spacing).line 3).condition = .spacing) ∧
     ((w 8 .marking).block 0).steps.map StepRecord.wait = [8] ∧ ((w 8 .marking).line 3).condition = .marking) := by
  decide +kernel

theorem witness_PauseAndResume :
    let lent (l : Line) : Line := { l with owner := .lent, ownerInForce := .lent }
    let paused (l : Line) : Line := { l with run := { l.run with state := .paused .waiting } }
    let a := waiting aStep
    let b := withStep aStep (at3 { waitingLine with claim := true })
    let c := withStep aStep (at3 (paused waitingLine))
    let d := withStep aStep (at3 (lent (paused waitingLine)))
    (running.line 3).status ≠ .on ∧
    (((at3 onLine).line 3).status = .on ∧ ((at3 onLine).line 3).run.state = .idle) ∧
    ((a.line 3).run.state = .waiting ∧ (a.line 3).claim = false ∧ ((acting aStep).line 3).run.state = .acting) ∧
    ((b.line 3).owner = .script ∧ (b.line 3).claim = true ∧ (b.line 3).tx.isSending = false ∧
      (b.line 3).ownerInForce = .script) ∧
    ((c.line 3).run.state = .paused .waiting ∧ (c.step 3).wait = 1 ∧ (c.line 3).owner = .script) ∧
    ((d.line 3).owner = .lent ∧ (d.line 3).ownerInForce = .lent ∧ (d.line 3).tx.isSending = false) ∧
    (let e := withStep aStep (at3 { waitingLine with claim := true, tx := .sending sendingChar })
     (e.line 3).owner = .script ∧ (e.line 3).claim = true ∧ (e.line 3).tx.isSending = true) ∧
    (let f (x : Option ActionEnd) := (at3 { actingLine with
       run := { actingLine.run with state := .paused .acting, actionResult := x } }).line 3
     (f none).run.state = .paused .acting ∧ (f none).run.actionResult = none ∧
     (f (some .completed)).run.actionResult = some .completed ∧ (f (some .failed)).run.actionResult = some .failed) ∧
    (let g (wait : Byte) (k : Condition) := withStep { aStep with wait := wait }
       (at3 { paused waitingLine with condition := k })
     (((g 7 .marking).step 3).wait = 7 ∧ ((g 7 .marking).line 3).condition = .marking) ∧
     (((g 8 .spacing).step 3).wait = 8 ∧ ((g 8 .spacing).line 3).condition = .spacing) ∧
     (((g 8 .marking).step 3).wait = 8 ∧ ((g 8 .marking).line 3).condition ≠ .spacing) ∧
     ((g 4 .marking).step 3).wait = 4) := by decide +kernel

/-- The states that RESUME meets run on: a COMPLETED action arms the wait, a FAILED one ends the run by its code. -/
theorem test_resume_goes_on :
    let s (x : ActionEnd) := withStep aStep (at3 { actingLine with
      run := { actingLine.run with state := .paused .acting, actionResult := some x } })
    ((after (.resumeRequest 3 9) (s .completed)).line 3).run.state = .waiting ∧
    ((after (.resumeRequest 3 9) (s .failed)).line 3).run.last.map RunOutcome.code = some 10 := by decide +kernel

theorem witness_AbortRequest :
    (running.ctl.part = .running ∧ 3 < running.linesInUse ∧ (running.line 3).run.state = .idle) ∧
    ((waiting aStep).line 3).run.state ≠ .idle ∧
    (let own (byStep : Bool) := at3 { waitingLine with tx := .brk ⟨10, byStep⟩ (some 5), breaks := [⟨20, true⟩, ⟨30, false⟩] }
     ((own true).line 3).run.state ≠ .idle ∧ ((own true).line 3).tx = .brk ⟨10, true⟩ (some 5) ∧
     ((own false).line 3).tx = .brk ⟨10, false⟩ (some 5) ∧
     ((own true).line 3).breaks.filter (fun b => !b.byStep) = [⟨30, false⟩]) ∧
    (let lent (claim : Bool) := at3 { waitingLine with
       owner := .lent, ownerInForce := .lent, staging := [0x41], claim := claim, det := { Detection.reset with state := .verifying } }
     ((lent true).line 3).owner = .lent ∧ ((lent true).line 3).claim = true ∧ ((lent false).line 3).claim = false ∧
     ((lent true).line 3).det.state ≠ .none) := by decide +kernel

/-- An ABORT cuts the run's own break for the request's that waits, and the claiming operator has the line. -/
theorem test_abort_winds_up :
    let t := after (.abortRequest 3 9) (at3 { waitingLine with
      claim := true, tx := .brk ⟨10, true⟩ (some 5), breaks := [⟨20, true⟩, ⟨30, false⟩] })
    (t.line 3).tx = .brk ⟨30, false⟩ (some 31) ∧ (t.line 3).breaks = [] ∧ (t.line 3).owner = .operator ∧
    (t.line 3).ownerInForce = .operator := by decide +kernel

theorem witness_BreakRequest :
    let script := at3 { onLine with owner := .script }
    let busy := at3 { onLine with breaks := [⟨10, false⟩] }
    let sending := at3 { onLine with tx := .sending sendingChar }
    (running.line 3).status ≠ .on ∧ (script.line 3).owner = .script ∧
    ((busy.line 3).owner ≠ .script ∧ (busy.line 3).breaks ≠ []) ∧
    ((sending.line 3).tx.isBreak = false ∧ (sending.line 3).breaks = [] ∧ (sending.line 3).tx.isSending = true) ∧
    (((at3 onLine).line 3).tx.isSending = false ∧ ((at3 onLine).line 3).tx.isBreak = false) := by decide +kernel

theorem witness_OutputRequests :
    let locked : State := { at3 onLine with lockSet := 8 }
    (running.line 3).status ≠ .on ∧ ((locked.line 3).status = .on ∧ locked.locked 3 = true) ∧
    (((waiting aStep).line 3).status = .on ∧ (waiting aStep).locked 3 = false ∧
      ((waiting aStep).line 3).run.state ≠ .idle) ∧
    (((at3 onLine).line 3).status = .on ∧ (at3 onLine).locked 3 = false ∧ ((at3 onLine).line 3).run.state = .idle) := by
  decide +kernel

theorem witness_ApplyAndDetect :
    (running.line 3).status ≠ .on ∧
    (((waiting aStep).line 3).status = .on ∧ ((waiting aStep).line 3).run.state ≠ .idle) ∧
    (((at3 onLine).line 3).status = .on ∧ ((at3 onLine).line 3).run.state = .idle ∧
      ((at3 onLine).line 3).det.state = .none ∧ ((at3 onLine).line 3).flowHeld = false) ∧
    formatOf { goodHost with flow := 2 } = none ∧ (formatOf goodHost).isSome = true ∧
    (let held := at3 { onLine with flowHeld := true, tx := .held }
     (held.line 3).flowHeld = true ∧ (held.line 3).tx = .held ∧ (held.line 3).run.state = .idle ∧
     (formatOf goodHost).map Format.flow = some .none ∧
     (formatOf { goodHost with flow := 1 }).map Format.flow = some .xonxoff) := by decide +kernel

theorem witness_TriggerRequests :
    let s (t : TriggerState) := at3 { onLine with cap := { Capture.reset with trigger := t } }
    (running.line 3).status ≠ .on ∧ (((s .frozen).line 3).status = .on ∧ ((s .frozen).line 3).cap.trigger = .frozen) ∧
    ((s .off).line 3).cap.trigger = .off ∧ ((s .armed).line 3).cap.trigger = .armed ∧
    ((s .counting).line 3).cap.trigger = .counting := by decide +kernel

theorem witness_StartCompletes :
    let s (stale : Bool) := flying .startHeader 128 stale (part .starting)
    (zeros 128).length = 128 ∧ (s false).port.inFlight = some ⟨.startHeader, 0x2000, 128, [], false⟩ ∧
    (s true).port.inFlight = some ⟨.startHeader, 0x2000, 128, [], true⟩ ∧ (s false).port.flag = false := by
  decide +kernel

theorem witness_StopWindsUp :
    let s := part .stopping
    (s.ctl.part = .stopping ∧ s.ctl.windUp = false ∧ s.port.inFlight = none ∧
      (∀ n : LineNo, (s.line n).cap.fifo = [] ∧ (s.line n).tx.isSending = false)) ∧
    (s.port.flag = false ∧ s.reports.headerDirty = false ∧
      ∀ n : LineNo, n.val < s.linesInUse → s.reports.dirty.get n = false) ∧
    (flagged s).port.flag = true := by decide +kernel

theorem witness_BusGrant :
    let s (b : BusState) (h : Bool) : State := { running with port := { Port.reset with bus := b, holda := h } }
    (s .requesting true).port.holda = true ∧
    ((s .idle false).port.holda = false ∧ (s .idle false).port.bus ≠ .requesting) ∧
    ((s .requesting false).port.holda = false ∧ (s .requesting false).port.bus = .requesting) := by decide

theorem witness_PortServes :
    let s (b : BusState) (k : Nat) : State := { part .starting with port := { Port.reset with bus := b, tenure := k } }
    let f := s .holding 7
    (f.port.inFlight = none ∧ f.port.tenure < 8 ∧ f.firstAsking = some .scanner ∧
      f.jobOf .scanner = some .startHeader) ∧
    running.firstAsking = none ∧ 8 ≤ (s .holding 8).port.tenure ∧ (s .idle 0).port.flag = false ∧
    (flagged (s .idle 0)).port.flag = true ∧ (s .requesting 0).port.bus = .requesting ∧
    (flying .startHeader 128 false running).port.inFlight ≠ none := by decide +kernel

/-- Each client asking, with the job its rule names; the Capture Writer and the Fetcher count on from the pointer. -/
theorem witness_PortServes_jobs :
    let ready : Line := { onLine with cap := { Capture.reset with fifo := [0x41] } }
    let c : State := { (running.setLine 3 ready).setLine 1 ready with capturePos := 1 }
    let byOp : Line := { onLine with owner := .operator, ownerInForce := .operator, fillSeen := 1 }
    let f : State := { (running.setLine 3 byOp).setLine 1 byOp with fetchPos := 1 }
    let d (k : Nat) (hdr : Bool) : State := { running with reports := { running.reports with
      headerDirty := hdr, position := .line 2, dirty := Vector.ofFn fun n => decide (n.val = k) } }
    let l := after (.loadRequest 1 15 64) running
    let hold (s : State) : State := { s with port := { s.port with bus := .holding } }
    (running.jobOf .capture = none ∧ c.jobOf .capture = some (.capture 3)) ∧
    (running.jobOf .fetcher = none ∧ f.jobOf .fetcher = some (.fetch 3)) ∧
    (running.jobOf .report = none ∧ (d 2 true).jobOf .report = some .reportHeader ∧
      (d 2 false).jobOf .report = some (.reportLine 2)) ∧
    (running.jobOf .loader = none ∧ l.store.loader = some ⟨15, 64, 0, 0, 0, 0⟩) ∧
    ((hold c).firstAsking = some .capture ∧ (hold f).firstAsking = some .fetcher ∧
      (hold (d 2 false)).firstAsking = some .report ∧ (hold c).port.tenure < 8 ∧ (hold c).port.inFlight = none) := by
  decide +kernel

theorem witness_MemoryFaults :
    let s (p : PartState) (j : Job) := flying j 128 false (part p)
    let loading := flying (.load 0) 128 false (after (.loadRequest 1 15 0) running)
    (after .grantTimeout { running with port := { Port.reset with bus := .requesting } }).port.faultKind = .grant ∧
    ((s .running (.reportLine 3)).port.inFlight = some ⟨.reportLine 3, 0x2000, 128, [], false⟩ ∧
      (s .running (.reportLine 3)).ctl.part ≠ .stopping ∧ (s .running (.reportLine 3)).store.loader = none) ∧
    (s .stopping .reportHeader).port.inFlight.isSome = true ∧ (s .starting .startHeader).ctl.part = .starting ∧
    (let w : State := { s .stopping .reportHeader with ctl := { (part .stopping).ctl with windUp := true } }
     w.ctl.part = .stopping ∧ w.ctl.windUp = true ∧ w.port.inFlight.isSome = true ∧
     (s .stopping .reportHeader).ctl.windUp = false) ∧
    (let full := (s .stopping (.reportLine 3)).setLine 3 { onLine with
       status := .off, cap := { Capture.reset with fifo := zeros 2, draining := true } }
     full.ctl.part = .stopping ∧ (full.line 3).cap.fifo ≠ [] ∧ (full.line 4).cap.fifo = [] ∧
     full.port.inFlight = some ⟨.reportLine 3, 0x2000, 128, [], false⟩) ∧
    (loading.store.loader.isSome = true ∧ loading.port.inFlight.isSome = true) ∧
    (running.port.bus ≠ .requesting ∧ running.port.inFlight = none) := by decide +kernel

theorem witness_OutboundFetch :
    let s (o : Owner) (stale : Bool) := flying (.fetch 3) 1 stale (at3 { onLine with owner := o, ownerInForce := o })
    ((s .operator false).port.inFlight = some ⟨.fetch 3, 0x2000, 1, [], false⟩ ∧ (zeros 1).length = 1 ∧
      ((s .operator false).line 3).status = .on ∧ ((s .operator false).line 3).ownerInForce = .operator) ∧
    ((s .lent false).line 3).ownerInForce = .lent ∧
    (s .operator true).port.inFlight = some ⟨.fetch 3, 0x2000, 1, [], true⟩ ∧
    ((s .free false).line 3).ownerInForce = .free ∧ ((s .script false).line 3).ownerInForce = .script := by
  decide +kernel

theorem witness_ReportWrite :
    let s (j : Job) := flying j 128 false (part .stopping)
    let w : State := { s .reportHeader with ctl := { (part .stopping).ctl with windUp := true } }
    (s (.reportLine 31)).port.inFlight = some ⟨.reportLine 31, 0x2000, 128, [], false⟩ ∧
    w.port.inFlight = some ⟨.reportHeader, 0x2000, 128, [], false⟩ ∧ w.ctl.part = .stopping ∧ w.ctl.windUp = true ∧
    (s .reportHeader).ctl.windUp = false := by decide +kernel

theorem witness_ReportWrite_sections :
    let l (last : Option RunOutcome) : Line := { onLine with
      takenTag := some 5, run := { Runner.reset with last := last, trail := [⟨2, .timeout, 9⟩] } }
    (Line.reset.takenTag = none ∧ (l none).takenTag = some 5) ∧
    ((l none).run.trail[0]? = some ⟨2, .timeout, 9⟩ ∧ (l none).run.trail.length ≤ 7) ∧
    ((l none).run.last = none ∧ (l (some ⟨.completed, 7, 1, .success, 3⟩)).run.last = some ⟨.completed, 7, 1, .success, 3⟩) ∧
    (running.scan.tag = none ∧ ({ running.scan with tag := some 7 } : Scanner).tag = some 7) ∧
    running.ctl.inReset = false := by decide +kernel

theorem witness_LoadReads :
    let base := after (.loadRequest 1 15 0) running
    let s (k : Nat) (stale : Bool) (sum : Word) (steps patterns : Word) : State :=
      flying (.load k) (loadLength k) stale { base with store := { base.store with
        loader := some ⟨15, 0, k, steps, patterns, 0⟩, sum := sum } }
    let counted (r : StepRecord) : State := (s 36 false 0 1 1).modBlock 15 fun b => { b with
      steps := [r], patterns := [aPattern] }
    ((s 0 false 0 0 0).port.inFlight = some ⟨.load 0, 0x2000, 128, [], false⟩ ∧ (zeros 128).length = 128 ∧
      (s 0 false 0 0 0).store.loader = some ⟨15, 0, 0, 0, 0, 0⟩) ∧
    (s 35 true 0 0 0).port.inFlight = some ⟨.load 35, 0x2000, 128, [], true⟩ ∧
    ((s 36 false 0 0 0).port.inFlight = some ⟨.load 36, 0x2000, 64, [], false⟩ ∧ (zeros 64).length = 64) ∧
    ((s 36 false 1 0 0).store.loader = some ⟨15, 0, 36, 0, 0, 0⟩ ∧ (s 36 false 1 0 0).store.sum ≠ 0) ∧
    ((after (.loadReadComplete (zeros 64)) (counted aStep)).store.loadResult = .loaded ∧
      (after (.loadReadComplete (zeros 64)) (counted { aStep with wait := 9 })).store.loadResult = .stepBad ∧
      (after (.loadReadComplete (zeros 64)) (s 36 false 0 0 0)).store.loadResult = .countBad ∧
      (after (.loadReadComplete (zeros 64)) (s 36 false 1 0 0)).store.loadResult = .checksumBad ∧
      (after (.loadReadComplete (zeros 64)) ((counted aStep).modBlock 15 fun b => { b with
        patterns := [{ aPattern with length := 25 }] })).store.loadResult = .patternBad) ∧
    (4 ≤ 36 ∧ (zeros 128).length = 128 ∧ (zeros 64).length = 64) := by decide +kernel

/-- The image in transactions of 128 bytes: transaction 4 ends the patterns and brings step 0 (R91). -/
theorem test_image_layout :
    ((List.range 37).map fun k => (loadPatterns k (zeros 128)).length).foldl (· + ·) 0 = 16 ∧
    ((List.range 37).map fun k => (loadSteps k (zeros 128)).length).foldl (· + ·) 0 = 64 ∧
    ((loadPatterns 4 (zeros 128)).length, (loadSteps 4 (zeros 128)).length) = (2, 1) := by decide +kernel

/-- A command waits at the front of the queue of a part just reset. -/
def queued : State := { State.reset with pending := [.lateBusAnswer] }

theorem queued_line (n : LineNo) : queued.line n = Line.reset := by
  simp [queued, State.line, State.reset]

theorem witness_StepKeepsBounds : step queued = .next { queued with pending := [] } ∧ queued.BaseAligned ∧
    queued.Bounded := by
  refine ⟨rfl, rfl, fun n => ?_, fun t n h => by cases h⟩
  rw [queued_line]; exact ⟨by decide, by decide, by decide, by decide, by decide⟩

theorem witness_LockSetOnlyGrows :
    (∀ rest, queued.pending ≠ .pinReset :: rest) ∧
    ({ running with pending := [.pinReset], lockSet := 1 } : State).pending = .pinReset :: [] := by
  constructor
  · intro rest h; cases h
  · rfl

theorem witness_StepKeepsCoherent : queued.Coherent ∧ queued.FinderCoherent ∧
    step queued = .next { queued with pending := [] } := by
  refine ⟨⟨?_, ?_, ?_, ?_, ?_⟩, ⟨?_, ?_, ?_, ?_, ?_, ?_⟩, rfl⟩
  · intro n _; rw [queued_line]; rfl
  · intro n _; rw [queued_line]; exact ⟨rfl, rfl, rfl⟩
  · intro _ n; rw [queued_line]; decide
  · intro _; rfl
  · intro t h; cases h
  · intro n; rw [queued_line]; simp [queued, State.reset, Line.reset, Detection.reset]
  · intro n; rw [queued_line]; simp [queued, State.reset, Line.reset, Detection.reset]
  · exact List.nodup_nil
  · exact List.nodup_nil
  · decide
  · exact Or.inl rfl

theorem witness_StepKeepsFinderCoherent : queued.Coherent ∧ queued.FinderCoherent ∧
    step queued = .next { queued with pending := [] } := witness_StepKeepsCoherent

end Sys2Proof.Tests
end

section
/-! SUPPORT. The Match Engine (03_pattern_matching.md): when two bytes are one letter in two cases, when a position
agrees with a character, and when a pattern matches. -/

namespace Sys2Proof.Machine

/-! ## Letters and their cases (R45) -/

/-- A byte is one of A to Z. -/
def IsUpper (b : Byte) : Prop := 0x41 ≤ b.toNat ∧ b.toNat ≤ 0x5A

/-- A byte is one of a to z. -/
def IsLower (b : Byte) : Prop := 0x61 ≤ b.toNat ∧ b.toNat ≤ 0x7A

theorem isLetter_iff (b : Byte) : isLetter b = true ↔ IsUpper b ∨ IsLower b := by
  simp [isLetter, IsUpper, IsLower]

/-- The case bit is clear in A to Z, so toggling it adds its weight. -/
theorem IsUpper.toNat_xor {b : Byte} : IsUpper b → (b ^^^ 0x20).toNat = b.toNat + 0x20 := by
  unfold IsUpper
  revert b
  decide

/-- The case bit is set in a to z, so toggling it takes its weight away. -/
theorem IsLower.toNat_xor {b : Byte} : IsLower b → b.toNat = (b ^^^ 0x20).toNat + 0x20 := by
  unfold IsLower
  revert b
  decide

theorem xor_eq_caseBit_iff (b c : Byte) : b ^^^ c = 0x20 ↔ c = b ^^^ 0x20 := by
  constructor
  · intro h
    rw [← h, ← BitVec.xor_assoc, BitVec.xor_self, BitVec.zero_xor]
  · rintro rfl
    rw [← BitVec.xor_assoc, BitVec.xor_self, BitVec.zero_xor]

theorem sameLetter_iff (b c : Byte) : sameLetter b c = true ↔
    (IsUpper b ∧ c.toNat = b.toNat + 0x20) ∨ (IsLower b ∧ b.toNat = c.toNat + 0x20 ∧ IsUpper c) := by
  have unfolded : sameLetter b c = true ↔
      (IsUpper b ∨ IsLower b) ∧ (IsUpper c ∨ IsLower c) ∧ c = b ^^^ 0x20 := by
    rw [sameLetter, Bool.and_eq_true, Bool.and_eq_true, isLetter_iff, isLetter_iff, beq_iff_eq,
      xor_eq_caseBit_iff, and_assoc]
  rw [unfolded]
  constructor
  · rintro ⟨upper | lower, -, rfl⟩
    · exact .inl ⟨upper, upper.toNat_xor⟩
    · have apart := lower.toNat_xor
      refine .inr ⟨lower, apart, ?_⟩
      unfold IsLower at lower
      unfold IsUpper
      omega
  · rintro (⟨upper, apart⟩ | ⟨lower, apart, upper⟩)
    · refine ⟨.inl upper, .inr ?_, BitVec.eq_of_toNat_eq (apart.trans upper.toNat_xor.symm)⟩
      unfold IsUpper at upper
      unfold IsLower
      omega
    · exact ⟨.inr lower, .inl upper,
        BitVec.eq_of_toNat_eq (Nat.add_right_cancel (apart.symm.trans lower.toNat_xor))⟩

/-- No letter lies at 0x80 or above, so folding reaches no such byte. -/
theorem sameLetter_lt {b c : Byte} (same : sameLetter b c = true) : b.toNat < 0x80 := by
  have letter := (sameLetter_iff b c).1 same
  unfold IsUpper IsLower at letter
  omega

/-! ## One position (R45) -/

theorem agrees_iff {p : Pattern} {i : Nat} {b : Byte} (c : Byte) (at_i : p.chars[i]? = some b) :
    p.agrees i c = true ↔ p.wild.getLsbD i = true ∨ b = c ∨ p.foldCase = true ∧ sameLetter b c = true := by
  simp [Pattern.agrees, at_i]

/-- Settles O19: the model's fold test says that the two are letters 0x20 apart, and no letter lies above 0x7F. -/
theorem patternAgrees : Obligations.PatternAgrees := by
  intro p i b c at_i upper lower
  have agrees := agrees_iff c at_i
  refine ⟨agrees.trans (by rw [sameLetter_iff]; rfl), fun notWild high low => ?_⟩
  rw [Bool.eq_false_iff]
  intro holds
  obtain wild | rfl | ⟨-, same⟩ := agrees.1 holds
  · exact Bool.false_ne_true (notWild.symm.trans wild)
  · omega
  · have := sameLetter_lt same
    omega

/-! ## The span and the anchor (R54, R55) -/

/-- The recursion along a span, as a statement about each of its positions. -/
theorem agreesFrom_iff (p : Pattern) (start : Nat) (span : List Byte) :
    p.agreesFrom start span = true ↔ ∀ (i : Nat) (c : Byte), span[i]? = some c → p.agrees (start + i) c = true := by
  induction span generalizing start with
  | nil => simp [Pattern.agreesFrom]
  | cons head tail ih =>
    rw [Pattern.agreesFrom, Bool.and_eq_true, ih]
    constructor
    · rintro ⟨first, others⟩ (_ | i) c found
      · obtain rfl : head = c := by simpa using found
        exact first
      · have later := others i c (by simpa using found)
        rwa [Nat.add_right_comm] at later
    · intro all
      refine ⟨all 0 head rfl, fun i c found => ?_⟩
      rw [Nat.add_right_comm]
      exact all (i + 1) c (by simpa using found)

theorem newest_getElem? (k : Nat) (history : List Byte) (i : Nat) :
    (newest k history)[i]? = history[history.length - k + i]? := by
  simp [newest]

/-- A span within the history has a character at each of its positions. -/
theorem agreesFrom_newest_iff {p : Pattern} {history : List Byte} (fits : p.length ≤ history.length) :
    p.agreesFrom 0 (newest p.length history) = true ↔
      ∀ i : Nat, i < p.length →
        ∃ c, history[history.length - p.length + i]? = some c ∧ p.agrees i c = true := by
  simp only [agreesFrom_iff, newest_getElem?, Nat.zero_add]
  constructor
  · intro all i inside
    have bound : history.length - p.length + i < history.length := by omega
    exact ⟨_, List.getElem?_eq_getElem bound, all i _ (List.getElem?_eq_getElem bound)⟩
  · intro all i c found
    have bound := (List.getElem?_eq_some_iff.1 found).1
    obtain ⟨d, there, agrees⟩ := all i (by omega)
    obtain rfl : d = c := Option.some.inj (there.symm.trans found)
    exact agrees

theorem anchored_iff (p : Pattern) (fresh : Nat) (history : List Byte) :
    p.anchored fresh history = true ↔ fresh = p.length ∨
      ∃ c, (history.take (history.length - p.length)).getLast? = some c ∧ (c = 0x0D ∨ c = 0x0A) := by
  unfold Pattern.anchored
  cases (history.take (history.length - p.length)).getLast? <;> simp

/-- Settles O20: the three tests of the match are the freshness, the span position by position, and the anchor. -/
theorem patternMatches : Obligations.PatternMatches := by
  intro p fresh history fits
  have lineStart : (!p.lineStart || p.anchored fresh history) = true ↔
      (p.lineStart = true → p.anchored fresh history = true) := by
    cases p.lineStart <;> simp
  rw [Pattern.matches, Bool.and_eq_true, Bool.and_eq_true, decide_eq_true_iff, and_assoc,
    agreesFrom_newest_iff fits, lineStart, anchored_iff]

end Sys2Proof.Machine
end

section
/-! SUPPORT. The station requests on the Script Store (05_script_blocks.md): the judgement that LOAD and UNLOAD share,
what recording it leaves, and the UNLOAD. -/

namespace Sys2Proof.Machine

/-! ## The judgement of a station request (R93) -/

theorem takesStation_of_idle {s : State} (running : s.ctl.part = .running) (idle : s.store.loader = none)
    (clear : s.port.flag = false) : s.takesStation = true := by
  simp [State.takesStation, running, idle, clear]

theorem judgeStation_badBlock (s : State) (isLoad : Bool) {blockIndex : Word} (source : Word)
    (beyond : 16 ≤ blockIndex.toNat) : judgeStation s isLoad blockIndex source = .error .badBlock :=
  dif_neg (Nat.not_lt.2 beyond)

/-- Past the test of the source address, the Use Count alone decides. -/
theorem judgeStation_useCount (s : State) (isLoad : Bool) {blockIndex source : Word} (fits : blockIndex.toNat < 16)
    (aligned : isLoad = true → source.toNat % 64 = 0) :
    judgeStation s isLoad blockIndex source =
      if (s.block ⟨blockIndex.toNat, fits⟩).useCount ≠ 0 then .error .inUse else .ok ⟨blockIndex.toNat, fits⟩ := by
  have passes : ¬(isLoad = true ∧ source.toNat % 64 ≠ 0) := fun ⟨load, off⟩ => off (aligned load)
  rw [judgeStation, dif_pos fits, if_neg passes]

/-! ## The record of a station request (R168, R170) -/

@[simp] theorem recordStationResult_lines (tag : Word) (p : State × StationResult) :
    (State.recordStationResult tag p).lines = p.1.lines := rfl
@[simp] theorem recordStationResult_store (tag : Word) (p : State × StationResult) :
    (State.recordStationResult tag p).store = p.1.store := rfl
@[simp] theorem recordStationResult_port (tag : Word) (p : State × StationResult) :
    (State.recordStationResult tag p).port = p.1.port := rfl
@[simp] theorem recordStationResult_block (tag : Word) (p : State × StationResult) (b : BlockNo) :
    (State.recordStationResult tag p).block b = p.1.block b := rfl
@[simp] theorem recordStationResult_scan (tag : Word) (p : State × StationResult) :
    (State.recordStationResult tag p).scan = { p.1.scan with tag := some tag, result := p.2 } := rfl

/-- The cause STATION_REQUEST_TAKEN is held with a header that is dirty, whether or not the request has marked it. -/
theorem recordStationResult_reports (tag : Word) (p : State × StationResult) :
    (State.recordStationResult tag p).reports = { p.1.markHeader.reports with
      heldStation := p.1.markHeader.reports.heldStation ||| 0x1 } := rfl

/-! ## An accepted UNLOAD (R95) -/

@[simp] theorem block_markHeader (s : State) (b : BlockNo) : s.markHeader.block b = s.block b := rfl

@[simp] theorem block_acceptUnload_self (s : State) (b : BlockNo) :
    (s.acceptUnload b).block b = { s.block b with
      state := .empty, stepCount := 0, patternCount := 0, steps := [], patterns := [] } := by
  rw [State.acceptUnload, block_markHeader, block_modBlock_self]

theorem block_acceptUnload_ne (s : State) {b c : BlockNo} (h : c ≠ b) : (s.acceptUnload b).block c = s.block c := by
  rw [State.acceptUnload, block_markHeader, block_modBlock_ne s _ h]

/-! ## The UNLOAD, refused or accepted (R93, R95) -/

theorem judgeUnload_badBlock (s : State) {blockIndex : Word} (beyond : 16 ≤ blockIndex.toNat) :
    s.judgeUnload blockIndex = (s, .badBlock) := by
  rw [State.judgeUnload, judgeStation_badBlock s false 0 beyond]

theorem judgeUnload_inUse {s : State} {blockIndex : Word} (fits : blockIndex.toNat < 16)
    (used : (s.block ⟨blockIndex.toNat, fits⟩).useCount ≠ 0) : s.judgeUnload blockIndex = (s, .inUse) := by
  rw [State.judgeUnload, judgeStation_useCount s false fits nofun, if_pos used]

theorem judgeUnload_accepted {s : State} {blockIndex : Word} (fits : blockIndex.toNat < 16)
    (unused : (s.block ⟨blockIndex.toNat, fits⟩).useCount = 0) :
    s.judgeUnload blockIndex = (s.acceptUnload ⟨blockIndex.toNat, fits⟩, .accepted) := by
  rw [State.judgeUnload, judgeStation_useCount s false fits nofun, if_neg (not_not.2 unused)]

/-- What an UNLOAD leaves as it was, whatever its judgement; the reports agree once the header is marked dirty. -/
structure UnloadKeeps (s t : State) : Prop where
  lines   : t.lines = s.lines
  port    : t.port = s.port
  scan    : t.scan = s.scan
  loader  : t.store.loader = s.store.loader
  reports : t.markHeader.reports = s.markHeader.reports

theorem judgeUnload_keeps (s : State) (blockIndex : Word) : UnloadKeeps s (s.judgeUnload blockIndex).1 := by
  rw [State.judgeUnload]
  cases judgeStation s false blockIndex 0 with
  | ok b => exact ⟨rfl, rfl, rfl, rfl, rfl⟩
  | error r => exact ⟨rfl, rfl, rfl, rfl, rfl⟩

theorem exec_unloadRequest {s : State} (tag blockIndex : Word) (taken : s.takesStation = true) :
    exec (.unloadRequest tag blockIndex) s =
      .next (State.recordStationResult tag (s.judgeUnload blockIndex)).settlePort :=
  if_pos taken

/-- Settles O37: the frame is common to the three judgements, and each of them fixes the result and the store. -/
theorem unloadRequest : Obligations.UnloadRequest := by
  intro tag block s running idle clear
  have keeps := judgeUnload_keeps s block
  refine ⟨State.recordStationResult tag (s.judgeUnload block),
    exec_unloadRequest tag block (takesStation_of_idle running idle clear),
    keeps.lines, keeps.port, ?scan, ?reports, keeps.loader.trans idle, ?beyond, fun fits => ⟨?used, ?unused⟩⟩
  case scan => rw [recordStationResult_scan, keeps.scan]
  case reports =>
    rw [recordStationResult_reports, keeps.reports]
    rfl
  case beyond =>
    intro beyond
    simp [judgeUnload_badBlock s beyond]
  case used =>
    intro used
    simp [judgeUnload_inUse fits used]
  case unused =>
    intro unused
    simp only [judgeUnload_accepted fits unused, recordStationResult_scan, recordStationResult_block,
      block_acceptUnload_self, true_and]
    exact fun c other => block_acceptUnload_ne s other

end Sys2Proof.Machine
end

section
/-! SUPPORT. Station Base (11_registers_notices_and_start_up.md, R185): the write, the read back, the start it can
refuse, and the addresses that count from it. -/

namespace Sys2Proof.Machine

/-- The mask of the write clears just the bits that would break the alignment. -/
theorem alignedBase_low (a : Word) : (a &&& 0xFFFFFF00) &&& 0xFF = 0 := by
  rw [BitVec.and_assoc]
  exact BitVec.and_zero

theorem answers_of_notInReset {s : State} (answers : s.ctl.inReset = false) : s.answers = true := by
  simp [State.answers, answers]

theorem exec_stationBaseWrite_halted {s : State} (a : Word) (answers : s.ctl.inReset = false)
    (halted : s.ctl.part = .halted) :
    exec (.stationBaseWrite a) s = .next { s with ctl := { s.ctl with base := a &&& 0xFFFFFF00 } } :=
  if_pos ⟨answers_of_notInReset answers, halted⟩

theorem exec_stationBaseWrite_notHalted {s : State} (a : Word) (active : s.ctl.part ≠ .halted) :
    exec (.stationBaseWrite a) s = .next s :=
  if_neg fun ⟨_, halted⟩ => active halted

theorem runOne_baseZero {s : State} (unset : s.ctl.base = 0) : s.runOne = s :=
  if_neg fun ⟨_, set, _⟩ => set unset

/-- A write of RUN 1 that does not start the part: SWEEP_NOW sets nothing outside RUNNING. -/
theorem controlWrite_refused {s : State} (ie sn : Bool) (halted : s.ctl.part = .halted) (unset : s.ctl.base = 0) :
    s.controlWrite true ie sn = { s with ctl := { s.ctl with intEnable := ie } } := by
  have notRunning : ¬(sn = true ∧ s.ctl.part = .running) := fun ⟨_, running⟩ => nomatch halted.symm.trans running
  have refused : ({ s with ctl := { s.ctl with intEnable := ie } } : State).runOne = _ := runOne_baseZero unset
  simp only [State.controlWrite, if_true]
  rw [refused, if_neg notRunning]

theorem exec_runWritten1 {s : State} (ie sn : Bool) (answers : s.ctl.inReset = false) :
    exec (.runWritten1 ie sn) s = .next (s.controlWrite true ie sn).settlePort :=
  if_pos (answers_of_notInReset answers)

@[simp] theorem settlePort_ctl (s : State) : s.settlePort.ctl = s.ctl :=
  congrArg Common.ctl (settlePort_keeps s).common

/-- The part section of a line record stands 384 beyond the header, plus 256 for each line before (R158). -/
theorem partAddr_line (base : Word) (n : LineNo) :
    partAddr base (.line n) = base + 384 + BitVec.ofNat 32 (256 * n.val) := by
  calc base + 256 + BitVec.ofNat 32 (256 * n.val) + 128
      = base + 256 + 128 + BitVec.ofNat 32 (256 * n.val) := add_right_comm ..
    _ = base + 384 + BitVec.ofNat 32 (256 * n.val) := by rw [BitVec.add_assoc base]; rfl

/-- Settles O9: the write's mask aligns, a base of 0 fails the start's test, and every address is the base plus its
record's place. -/
theorem stationBase : Obligations.StationBase := by
  refine ⟨?taken, ?refused, ?readBack, ?unset, ?addresses⟩
  case taken =>
    intro a s answers halted
    exact ⟨_, exec_stationBaseWrite_halted a answers halted, rfl, alignedBase_low a⟩
  case refused => exact fun a s active => exec_stationBaseWrite_notHalted a active
  case readBack => exact fun s answers => regRead_answered s .word 0x04 answers
  case unset =>
    intro ie sn s answers halted unset
    refine ⟨_, exec_runWritten1 ie sn answers, ?_⟩
    rw [settlePort_ctl, controlWrite_refused ie sn halted unset]
    exact halted
  case addresses => exact fun s => ⟨rfl, rfl, rfl, fun n => ⟨rfl, partAddr_line s.ctl.base n⟩⟩

end Sys2Proof.Machine
end

section
/-! SUPPORT. The interrupt (11_registers_notices_and_start_up.md, R190): when IRQ is asserted, INT_ENABLE in a CONTROL
write, and what each row does to the pending sets. -/

namespace Sys2Proof.Machine

/-! ## The level of IRQ -/

theorem notices_any_iff (u : Notices) : u.any = true ↔ (∃ n : LineNo, u.line.get n ≠ 0) ∨ u.station ≠ 0 := by
  have lines : u.line.toList.any (· != 0) = true ↔ ∃ n : LineNo, u.line.get n ≠ 0 := by
    rw [List.any_eq_true]
    constructor
    · rintro ⟨causes, member, pending⟩
      obtain ⟨i, bound, rfl⟩ := Vector.mem_iff_getElem.1 (Vector.mem_toList_iff.1 member)
      exact ⟨⟨i, bound⟩, bne_iff_ne.1 pending⟩
    · rintro ⟨n, pending⟩
      exact ⟨_, Vector.mem_toList_iff.2 (Vector.getElem_mem n.isLt), bne_iff_ne.2 pending⟩
  rw [Notices.any, Bool.or_eq_true, lines, bne_iff_ne]

theorem irq_iff (s : State) : s.irq = true ↔
    s.ctl.intEnable = true ∧ ((∃ n : LineNo, s.notices.line.get n ≠ 0) ∨ s.notices.station ≠ 0) := by
  rw [State.irq, Bool.and_eq_true, notices_any_iff]

/-! ## What a stop, a start and a sweep do to the control registers and the notices -/

theorem notices_of_common {s t : State} (same : t.common = s.common) : t.notices = s.notices :=
  congrArg Common.notices same

theorem ctl_of_common {s t : State} (same : t.common = s.common) : t.ctl = s.ctl :=
  congrArg Common.ctl same

theorem common_ite {c : Prop} [Decidable c] {s t u : State} (yes : t.common = s.common) (no : u.common = s.common) :
    (if c then t else u).common = s.common := by
  split
  · exact yes
  · exact no

theorem common_forLines (s : State) {f : LineNo → State → State} (same : ∀ n t, (f n t).common = t.common) :
    (s.forLines f).common = s.common :=
  common_foldl _ (fun t n => same n t) _ s

@[simp] theorem common_stopLine (s : State) (n : LineNo) : (s.stopLine n).common = s.common := by
  have resettled : ∀ c [Decidable c], (if c then s.settleFifo n else s).common = s.common :=
    fun _ _ => common_ite (common_settleFifo s n) rfl
  have cut : ∀ (u : State) c [Decidable c],
      u.common = s.common → (if c then u.discardFifo n else u).common = s.common :=
    fun u _ _ same => common_ite ((common_discardFifo u n).trans same) same
  unfold State.stopLine
  refine cut _ _ ?_
  split
  · exact common_lineOff ..
  · exact resettled _
  · exact resettled _

/-- The stop sequence begins in the control registers and the scanner; the rest of what no line's event changes
stays (R191). -/
theorem common_beginStop (s : State) : s.beginStop.common = ({ s with
    ctl := { s.ctl with part := .stopping, windUp := false }
    scan := { s.scan with timer := none, pending := false, position := none } } : State).common := by
  simp only [State.beginStop, State.staleScan, common_markHeader, common_endLoad, common_makeStale]
  rw [common_forLines _ fun n t => common_stopLine t n]
  rfl

theorem runOne_keeps (s : State) : s.runOne.notices = s.notices ∧ s.runOne.ctl.intEnable = s.ctl.intEnable := by
  unfold State.runOne
  split
  · exact ⟨rfl, rfl⟩
  · exact ⟨rfl, rfl⟩

theorem runZero_keeps (s : State) : s.runZero.notices = s.notices ∧ s.runZero.ctl.intEnable = s.ctl.intEnable := by
  unfold State.runZero
  split
  · exact ⟨rfl, rfl⟩
  · have notices := notices_of_common (common_beginStop s)
    have ctl := ctl_of_common (common_beginStop s)
    exact ⟨notices, (congrArg Control.intEnable ctl).trans rfl⟩
  · exact ⟨rfl, rfl⟩

theorem startSweep_keeps (s : State) : s.startSweep.notices = s.notices ∧ s.startSweep.ctl = s.ctl := by
  unfold State.startSweep
  split
  · exact ⟨rfl, rfl⟩
  · exact ⟨rfl, rfl⟩

theorem askSweep_keeps (s : State) : s.askSweep.notices = s.notices ∧ s.askSweep.ctl = s.ctl := by
  unfold State.askSweep
  split
  · exact ⟨rfl, rfl⟩
  · exact startSweep_keeps _

theorem askSweepIf_keeps (s : State) (c : Prop) [Decidable c] :
    (if c then s.askSweep else s).notices = s.notices ∧ (if c then s.askSweep else s).ctl = s.ctl := by
  split
  · exact askSweep_keeps s
  · exact ⟨rfl, rfl⟩

theorem runWritten_keeps (s : State) (run : Bool) : (if run then s.runOne else s.runZero).notices = s.notices ∧
    (if run then s.runOne else s.runZero).ctl.intEnable = s.ctl.intEnable := by
  cases run
  · exact runZero_keeps s
  · exact runOne_keeps s

/-- A CONTROL write puts INT_ENABLE in force at once, whatever its other bits do, and records no cause (R186). -/
theorem controlWrite_keeps (s : State) (run ie sn : Bool) :
    (s.controlWrite run ie sn).notices = s.notices ∧ (s.controlWrite run ie sn).ctl.intEnable = ie := by
  simp only [State.controlWrite, askSweepIf_keeps]
  exact runWritten_keeps _ run

theorem notices_sweepOn (s : State) (n : LineNo) : (s.sweepOn n).notices = s.notices := by
  have ended : s.endSweep.notices = s.notices := (startSweep_keeps _).1
  unfold State.sweepOn
  split
  · split
    · rfl
    · exact ended
  · exact ended

/-! ## The station requests record no cause of their own -/

@[simp] theorem common_judgeLoad (s : State) (block source : Word) :
    (s.judgeLoad block source).1.common = s.common := by
  unfold State.judgeLoad
  split
  · exact common_acceptLoad ..
  · rfl

@[simp] theorem common_judgeUnload (s : State) (block : Word) : (s.judgeUnload block).1.common = s.common := by
  unfold State.judgeUnload
  split
  · exact common_acceptUnload ..
  · rfl

theorem notices_recordStationResult (tag : Word) (p : State × StationResult) :
    (State.recordStationResult tag p).notices = p.1.notices := rfl

theorem common_judgeStationRequest (s : State) (h : HeaderHost) :
    (s.judgeStationRequest h).1.common = s.common := by
  unfold State.judgeStationRequest
  split
  · exact common_judgeLoad ..
  · exact common_judgeUnload ..
  · rfl

theorem notices_examineStation (s : State) (h : HeaderHost) : (s.examineStation h).notices = s.notices := by
  unfold State.examineStation
  split
  · rfl
  · split
    · rfl
    · split
      · rfl
      · exact (notices_recordStationResult h.tag _).trans (notices_of_common (common_judgeStationRequest s h))

/-! ## The pending sets grow -/

/-- Every cause pending in u is pending in v. -/
def Notices.Within (u v : Notices) : Prop :=
  (∀ n : LineNo, u.line.get n &&& v.line.get n = u.line.get n) ∧ u.station &&& v.station = u.station

theorem and_or_absorb {w : Nat} (a b : BitVec w) : a &&& (a ||| b) = a := by
  ext i
  rw [BitVec.getElem_and, BitVec.getElem_or]
  exact inf_sup_self

theorem Notices.Within.of_sets {u v : Notices} (line : v.line = u.line) (station : v.station = u.station) :
    u.Within v := by
  simp [Notices.Within, line, station]

theorem Notices.Within.of_eq {u v : Notices} (same : v = u) : u.Within v :=
  .of_sets (congrArg Notices.line same) (congrArg Notices.station same)

theorem within_recordLine (s : State) (n : LineNo) (cs : BitVec 12) :
    s.notices.Within (s.recordLine n cs).notices := by
  refine ⟨fun m => ?_, BitVec.and_self⟩
  by_cases same : m = n
  · subst same
    simp [State.recordLine, Vector.get_eq_getElem, and_or_absorb]
  · have apart : n.val ≠ m.val := fun e => same (Fin.ext e.symm)
    simp [State.recordLine, Vector.get_eq_getElem, apart]

theorem within_recordStation (s : State) (cs : BitVec 4) : s.notices.Within (s.recordStation cs).notices :=
  ⟨fun _ => BitVec.and_self, and_or_absorb _ _⟩

/-- A header read hands over new masks; what is pending stays. -/
theorem within_takeMasks (s : State) (h : HeaderHost) : s.notices.Within (s.takeMasks h).notices :=
  .of_sets rfl rfl

theorem within_actOnHeader (s : State) (h : HeaderHost) : s.notices.Within (s.actOnHeader h).notices := by
  unfold State.actOnHeader
  dsimp only
  rw [notices_examineStation]
  split
  · exact within_takeMasks _ h
  · exact within_takeMasks _ h

theorem within_actOnStart (s : State) (h : HeaderHost) : s.notices.Within (s.actOnStart h).notices := by
  unfold State.actOnStart
  dsimp only
  rw [(startSweep_keeps _).1]
  exact within_takeMasks _ h

theorem recordStation_notices_congr {s t : State} (cs : BitVec 4) (same : t.notices = s.notices) :
    (t.recordStation cs).notices = (s.recordStation cs).notices := by
  simp only [State.recordStation, same]

/-- A fault records MEMORY_FAULT and no other cause (R170, R179). -/
theorem notices_recordFault (s : State) (kind : FaultKind) (client : Option Client) (addr : Word) :
    (s.recordFault kind client addr).notices = (s.recordStation StationCause.memoryFault.bits).notices := by
  have returned := notices_of_common (common_returnCarried s)
  have ended : ∀ u : State, (u.endLoad .memoryFault).notices = u.notices :=
    fun u => notices_of_common (common_endLoad u _)
  have discarded : ∀ (u : State) c [Decidable c],
      (if c then u.forLines fun n t => t.discardFifo n else u).notices = u.notices :=
    fun u _ _ => notices_of_common (common_ite (common_forLines u fun n t => common_discardFifo t n) rfl)
  exact recordStation_notices_congr _ ((discarded _ _).trans ((ended _).trans returned))

theorem within_recordFault (s : State) (kind : FaultKind) (client : Option Client) (addr : Word) :
    s.notices.Within (s.recordFault kind client addr).notices := by
  rw [notices_recordFault]
  exact within_recordStation s _

/-! ## The outcome of a row -/

/-- The outcome, where it is a next state, has every cause pending that s has. -/
def KeepsPending (s : State) (o : Host.Outcome State Fault Refusal) : Prop :=
  ∀ t, o = .next t → s.notices.Within t.notices

section
variable {s u : State}

theorem keepsPending_next (within : s.notices.Within u.notices) : KeepsPending s (.next u) := by
  rintro t ⟨⟩
  exact within

theorem keepsPending_next_notices (same : u.notices = s.notices) : KeepsPending s (.next u) :=
  keepsPending_next (.of_eq same)

theorem keepsPending_idle (s : State) : KeepsPending s (.next s) := keepsPending_next_notices rfl

theorem keepsPending_finish (within : s.notices.Within u.notices) : KeepsPending s u.finish := by
  rintro t ⟨⟩
  rwa [notices_of_common (settlePort_keeps u).common]

theorem keepsPending_finish_notices (same : u.notices = s.notices) : KeepsPending s u.finish :=
  keepsPending_finish (.of_eq same)

theorem keepsPending_finish_common (same : u.common = s.common) : KeepsPending s u.finish :=
  keepsPending_finish_notices (notices_of_common same)

theorem keepsPending_ite {c : Prop} [Decidable c] {o p : Host.Outcome State Fault Refusal} (yes : KeepsPending s o)
    (no : KeepsPending s p) : KeepsPending s (if c then o else p) := by
  split
  · exact yes
  · exact no

/-- A row whose test fails changes nothing (log 1). -/
theorem keepsPending_gated {c : Prop} [Decidable c] {o : Host.Outcome State Fault Refusal} (keeps : KeepsPending s o) :
    KeepsPending s (if c then o else .next s) :=
  keepsPending_ite keeps (keepsPending_idle s)

end

/-! ## The rows that share a form -/

theorem controlRow_keepsPending (s : State) (run ie sn : Bool) :
    KeepsPending s (if s.answers then (s.controlWrite run ie sn).finish else .next s) :=
  keepsPending_gated (keepsPending_finish_notices (controlWrite_keeps s run ie sn).1)

theorem actionRow_keepsPending {s : State} {c : Prop} [Decidable c] (n : LineNo) {p : State × Begun}
    (same : p.1.common = (s.setBegun n).common) :
    KeepsPending s (if c then State.actionBegun n p else .next s) := by
  refine keepsPending_gated (keepsPending_finish_common ?_)
  rw [common_follow, common_afterAct, same, common_setBegun]

theorem requestRow_keepsPending {s : State} {c : Prop} [Decidable c] (n : LineNo) (tag : Word) {p : State × ReqResult}
    (same : p.1.common = s.common) :
    KeepsPending s (if c then (State.recordResult n tag p).finish else .next s) :=
  keepsPending_gated (keepsPending_finish_common ((common_recordResult n tag p).trans same))

theorem stationRow_keepsPending {s : State} {c : Prop} [Decidable c] (tag : Word) {p : State × StationResult}
    (same : p.1.common = s.common) :
    KeepsPending s (if c then (State.recordStationResult tag p).finish else .next s) :=
  keepsPending_gated (keepsPending_finish_notices
    ((notices_recordStationResult tag p).trans (notices_of_common same)))

/-! ## The rows of a console line -/

theorem rxdFall_keepsPending (n : LineNo) (ticks : Nat) (s : State) : KeepsPending s (execRxdFall n ticks s) :=
  keepsPending_ite (keepsPending_idle s) (keepsPending_ite (keepsPending_next_notices rfl)
    (keepsPending_finish_common (common_measureEdge s n ticks true)))

theorem rxdRise_keepsPending (n : LineNo) (ticks : Nat) (s : State) : KeepsPending s (execRxdRise n ticks s) :=
  have measured := common_measureEdge s n ticks false
  keepsPending_ite (keepsPending_idle s) (keepsPending_ite (keepsPending_next_notices rfl)
    (keepsPending_finish_common (common_ite ((common_breakSeen _ n).trans measured) measured)))

theorem startCheck_keepsPending (p : SamplePoint) (s : State) : KeepsPending s (execStartCheck p s) := by
  simp only [execStartCheck]
  split
  · exact keepsPending_gated (keepsPending_ite (keepsPending_next_notices rfl) (keepsPending_next_notices rfl))
  · exact keepsPending_idle s

theorem characterDelivered_keepsPending (p : SamplePoint) (s : State) :
    KeepsPending s (execCharacterDelivered p s) := by
  simp only [execCharacterDelivered]
  split
  · refine keepsPending_gated ?_
    split
    · exact keepsPending_next_notices rfl
    · exact keepsPending_finish_common (common_deliver _ p.line _ true _)
    · exact keepsPending_finish_common (common_deliver _ p.line _ false _)
  · exact keepsPending_idle s

theorem characterStart_keepsPending (n : LineNo) (s : State) : KeepsPending s (execCharacterStart n s) := by
  unfold execCharacterStart
  refine keepsPending_gated ?_
  split
  · exact keepsPending_finish_common rfl
  · exact keepsPending_idle s

theorem characterEnd_keepsPending (n : LineNo) (s : State) : KeepsPending s (execCharacterEnd n s) := by
  have started : ∀ (l : Line) (b : Bool),
      (((s.modLine n fun _ => l).markIf n b).startIfQueued n).common = s.common :=
    fun l b => (common_startIfQueued _ n).trans (common_markIf _ n b)
  simp only [execCharacterEnd]
  split
  · exact keepsPending_finish_common (common_ite ((common_sendEnded _ n).trans (started _ _)) (started _ _))
  · exact keepsPending_idle s

theorem gapExpiry_keepsPending (n : LineNo) (s : State) : KeepsPending s (execGapExpiry n s) := by
  unfold execGapExpiry
  split
  · exact keepsPending_gated (keepsPending_finish_common rfl)
  · exact keepsPending_idle s

theorem breakTimerExpiry_keepsPending (n : LineNo) (s : State) : KeepsPending s (execBreakTimerExpiry n s) := by
  unfold execBreakTimerExpiry
  split
  · exact keepsPending_gated (keepsPending_finish_common
      (common_ite (common_actionEnded (s.modLine n Line.afterBreak) n .brk none) rfl))
  · exact keepsPending_idle s

/-! ## The completions and the bus -/

theorem holdaRise_keepsPending (s : State) : KeepsPending s (execHoldaRise s) :=
  keepsPending_ite (keepsPending_idle s)
    (keepsPending_ite (keepsPending_finish_common rfl) (keepsPending_next_notices rfl))

theorem headerReadComplete_keepsPending (bytes : List Byte) (s : State) :
    KeepsPending s (execHeaderReadComplete bytes s) := by
  simp only [execHeaderReadComplete]
  split
  · exact keepsPending_gated (keepsPending_ite (keepsPending_finish_common rfl)
      (keepsPending_finish (within_actOnHeader { s.completed with scan := _ } _)))
  · exact keepsPending_idle s

theorem startHeaderReadComplete_keepsPending (bytes : List Byte) (s : State) :
    KeepsPending s (execStartHeaderReadComplete bytes s) := by
  unfold execStartHeaderReadComplete
  split
  · exact keepsPending_gated (keepsPending_ite (keepsPending_finish_common rfl)
      (keepsPending_finish (within_actOnStart s.completed _)))
  · exact keepsPending_idle s

theorem lineRecordReadComplete_keepsPending (bytes : List Byte) (s : State) :
    KeepsPending s (execLineRecordReadComplete bytes s) := by
  unfold execLineRecordReadComplete
  split
  · split
    · exact keepsPending_gated (keepsPending_ite (keepsPending_finish_common rfl) (keepsPending_finish_notices
        ((notices_sweepOn _ _).trans (notices_of_common (common_actOnLine s.completed _ _)))))
    · exact keepsPending_idle s
  · exact keepsPending_idle s

theorem captureWriteComplete_keepsPending (s : State) : KeepsPending s (execCaptureWriteComplete s) := by
  unfold execCaptureWriteComplete
  split
  · split
    · exact keepsPending_finish_common (common_ite rfl (common_captureWritten s.completed _ _))
    · exact keepsPending_idle s
  · exact keepsPending_idle s

theorem outboundFetchComplete_keepsPending (bytes : List Byte) (s : State) :
    KeepsPending s (execOutboundFetchComplete bytes s) := by
  unfold execOutboundFetchComplete
  split
  · split
    · exact keepsPending_gated (keepsPending_finish_common (common_ite rfl (common_placeFetch s.completed _ bytes)))
    · exact keepsPending_idle s
  · exact keepsPending_idle s

theorem loadReadComplete_keepsPending (bytes : List Byte) (s : State) :
    KeepsPending s (execLoadReadComplete bytes s) := by
  unfold execLoadReadComplete
  split
  · split
    · refine keepsPending_gated ?_
      split
      · exact keepsPending_finish_common (common_loadBytes s.completed _ bytes)
      · exact keepsPending_finish_common rfl
    · exact keepsPending_idle s
  · exact keepsPending_idle s

/-- The causes that a completed report write releases join the pending sets (R171, R188). -/
theorem reportWriteComplete_keepsPending (s : State) : KeepsPending s (execReportWriteComplete s) := by
  unfold execReportWriteComplete
  split
  · split
    · exact keepsPending_finish (within_recordLine s.completed _ _)
    · exact keepsPending_finish (within_recordStation s.completed _)
    · exact keepsPending_idle s
  · exact keepsPending_idle s

theorem recordFault_keepsPending (s : State) (kind : FaultKind) (client : Option Client) (addr : Word) :
    KeepsPending s (s.recordFault kind client addr).finish :=
  keepsPending_finish (within_recordFault s kind client addr)

theorem accessTimeout_keepsPending (s : State) : KeepsPending s (execAccessTimeout s) := by
  unfold execAccessTimeout
  split
  · exact recordFault_keepsPending s _ _ _
  · exact keepsPending_idle s

theorem busError_keepsPending (s : State) : KeepsPending s (execBusError s) := by
  unfold execBusError
  split
  · exact recordFault_keepsPending s _ _ _
  · exact keepsPending_idle s

/-! ## Every row -/

/-- Only NOTICE reads and the two resets take a cause out of a pending set (R190). -/
theorem exec_keepsPending (c : Instr) (s : State) (noPin : c ≠ .pinReset) (noSoft : ∀ o, c ≠ .softReset o)
    (noRead : ∀ l, c ≠ .noticeRead l) : KeepsPending s (exec c s) := by
  cases c with
  | pinReset => exact absurd rfl noPin
  | softReset others => exact absurd rfl (noSoft others)
  | noticeRead lane => exact absurd rfl (noRead lane)
  | resetnRise => exact keepsPending_gated (keepsPending_next_notices rfl)
  | runWritten1 ie sn => exact controlRow_keepsPending s true ie sn
  | runWritten0 ie sn => exact controlRow_keepsPending s false ie sn
  | sweepNow run ie => exact controlRow_keepsPending s run ie true
  | intEnable value run sn => exact controlRow_keepsPending s run value sn
  | stationBaseWrite addr => exact keepsPending_gated (keepsPending_next_notices rfl)
  | faultStateWrite value => exact keepsPending_gated (keepsPending_finish_notices rfl)
  | registerWriteIgnored offset width value => exact keepsPending_idle s
  | timeBaseAdvance => exact keepsPending_gated (keepsPending_next_notices rfl)
  | rxdFall n ticks => exact rxdFall_keepsPending n ticks s
  | rxdRise n ticks => exact rxdRise_keepsPending n ticks s
  | absentTimeExpiry n => exact keepsPending_gated (keepsPending_finish_common (common_changeCondition s n .spacing))
  | markingTimerExpiry n => exact keepsPending_gated (keepsPending_finish_common (common_changeCondition s n .marking))
  | characterDelivered p => exact characterDelivered_keepsPending p s
  | runJudged n => exact keepsPending_gated (keepsPending_finish_common (common_judgeEdge s n))
  | detectLimitExpiry n => exact keepsPending_gated (keepsPending_finish_common (common_concludeDetection s n _))
  | characterStart n => exact characterStart_keepsPending n s
  | characterEnd n => exact characterEnd_keepsPending n s
  | gapExpiry n => exact gapExpiry_keepsPending n s
  | holdLimitExpiry n => exact keepsPending_gated (keepsPending_finish_common rfl)
  | breakTimerExpiry n => exact breakTimerExpiry_keepsPending n s
  | pulseTimerExpiry n => exact keepsPending_gated (keepsPending_finish_common (common_actionEnded _ n .pulse none))
  | stepTimerExpiry n =>
    exact keepsPending_gated (keepsPending_finish_common
      ((common_exitStep (s.cutAction n) n .timeout).trans (common_cutAction s n)))
  | quietExpiry n => exact keepsPending_gated (keepsPending_finish_common (common_exitStep s n .success))
  | elapseExpiry n => exact keepsPending_gated (keepsPending_finish_common (common_exitStep s n .success))
  | noneAction n => exact actionRow_keepsPending n (common_actNone ..)
  | send n => exact actionRow_keepsPending n (common_actSend ..)
  | breakAction n => exact actionRow_keepsPending n (common_actBreak ..)
  | pulseAction n => exact actionRow_keepsPending n (common_actPulse ..)
  | driveActiveAction n => exact actionRow_keepsPending n (common_actDrive ..)
  | driveRestAction n => exact actionRow_keepsPending n (common_actDrive ..)
  | setRate n => exact actionRow_keepsPending n (common_actSetRate ..)
  | detectRate n => exact actionRow_keepsPending n (common_actDetect ..)
  | armTriggerAction n => exact actionRow_keepsPending n (common_actArm ..)
  | signal n => exact actionRow_keepsPending n (common_actSignal ..)
  | loadCounter n => exact actionRow_keepsPending n (common_actLoadCounter ..)
  | countDown n => exact actionRow_keepsPending n (common_actCountDown ..)
  | sweepTimerExpiry => exact keepsPending_gated (keepsPending_finish_notices (askSweep_keeps _).1)
  | sweepStart => exact keepsPending_gated (keepsPending_finish_notices (startSweep_keeps s).1)
  | headerReadComplete bytes => exact headerReadComplete_keepsPending bytes s
  | loadRequest tag block source => exact stationRow_keepsPending tag (common_judgeLoad s block source)
  | unloadRequest tag block => exact stationRow_keepsPending tag (common_judgeUnload s block)
  | unknownStationCode tag code => exact stationRow_keepsPending tag rfl
  | lineRecordReadComplete bytes => exact lineRecordReadComplete_keepsPending bytes s
  | startRequest n tag block entry => exact requestRow_keepsPending n tag (common_judgeStart s n block entry)
  | pauseRequest n tag => exact requestRow_keepsPending n tag (common_judgePause s n)
  | resumeRequest n tag => exact requestRow_keepsPending n tag (common_judgeResume s n)
  | abortRequest n tag => exact requestRow_keepsPending n tag (common_judgeAbort s n)
  | breakRequest n tag length => exact requestRow_keepsPending n tag (common_judgeBreak s n length)
  | pulseRequest n tag width => exact requestRow_keepsPending n tag (common_judgePulse s n width)
  | driveActiveRequest n tag => exact requestRow_keepsPending n tag (common_judgeDrive s n .active)
  | driveRestRequest n tag => exact requestRow_keepsPending n tag (common_judgeDrive s n .rest)
  | applyRequest n tag host => exact requestRow_keepsPending n tag (common_judgeApply s n host)
  | detectRequest n tag => exact requestRow_keepsPending n tag (common_judgeDetect s n)
  | armTriggerRequest n tag post pattern => exact requestRow_keepsPending n tag (common_judgeArm s n post pattern)
  | disarmRequest n tag => exact requestRow_keepsPending n tag (common_judgeDisarm s n)
  | thawRequest n tag => exact requestRow_keepsPending n tag (common_judgeThaw s n)
  | unknownCodeRequest n tag code => exact requestRow_keepsPending n tag rfl
  | startHeaderReadComplete bytes => exact startHeaderReadComplete_keepsPending bytes s
  | holdaRise => exact holdaRise_keepsPending s
  | grantTimeout => exact keepsPending_gated (recordFault_keepsPending s _ _ _)
  | accessTimeout => exact accessTimeout_keepsPending s
  | busError => exact busError_keepsPending s
  | lateBusAnswer => exact keepsPending_idle s
  | captureWriteComplete => exact captureWriteComplete_keepsPending s
  | outboundFetchComplete bytes => exact outboundFetchComplete_keepsPending bytes s
  | reportWriteComplete => exact reportWriteComplete_keepsPending s
  | loadReadComplete bytes => exact loadReadComplete_keepsPending bytes s
  | stopWindUpComplete => exact keepsPending_gated (keepsPending_finish_notices rfl)
  | startCheck p => exact startCheck_keepsPending p s
  | holdaFall => exact keepsPending_next_notices rfl

/-! ## The interrupt (R190) -/

theorem exec_softReset {s : State} (others : Word) (answers : s.ctl.inReset = false) :
    exec (.softReset others) s = .next (s.resetTo s.lockSet false) :=
  if_pos (answers_of_notInReset answers)

theorem exec_intEnable {s : State} (value run sn : Bool) (answers : s.ctl.inReset = false) :
    exec (.intEnable value run sn) s = .next (s.controlWrite run value sn).settlePort :=
  if_pos (answers_of_notInReset answers)

/-- A reset empties every pending set, and IRQ falls with them. -/
theorem resetTo_nothingPending (s : State) (lock : Word) (low : Bool) :
    (s.resetTo lock low).irq = false ∧ (s.resetTo lock low).notices.station = 0 ∧
      ∀ n : LineNo, (s.resetTo lock low).notices.line.get n = 0 :=
  ⟨rfl, rfl, fun n => Vector.getElem_replicate n.isLt⟩

/-- Settles O8: IRQ is the level of its two inputs, a CONTROL write sets the first of them in its event, and the rows
are gone through for what they do to the pending sets. -/
theorem interruptFollows : Obligations.InterruptFollows := by
  refine ⟨irq_iff, ?enable, ?pending, ?resets⟩
  case enable =>
    intro v run sn s answers
    refine ⟨_, exec_intEnable v run sn answers, ?_⟩
    rw [settlePort_ctl]
    exact (controlWrite_keeps s run v sn).2
  case pending => exact fun c s t next noPin noSoft noRead => exec_keepsPending c s noPin noSoft noRead t next
  case resets =>
    rintro c s (rfl | ⟨⟨others, rfl⟩, answers⟩)
    · exact ⟨_, rfl, resetTo_nothingPending s 0 true⟩
    · exact ⟨_, exec_softReset others answers, resetTo_nothingPending s s.lockSet false⟩

end Sys2Proof.Machine
end

section
/-! SUPPORT. The Rate Finder's queue and slots (02_rate_finding.md, R28, R29): what granting the free slots does, what a
line's record is after each operation of the finder, and that each of them keeps the finder coherent. -/

namespace Sys2Proof.Machine

/-! ## Granting the free slots (R29) -/

/-- The lines that get a slot as the free ones are granted: the head of the queue. -/
def State.granted (s : State) : List LineNo := s.queue.take (4 - s.slots.length)

/-- The record of a line that gets a slot. -/
def Detection.measure (d : Detection) : Detection := { d with state := .measuring, meas := .idle }

theorem line_grantSlot (s : State) (n m : LineNo) :
    (s.grantSlot n).line m = if m = n then { s.line m with det := (s.line m).det.measure } else s.line m := by
  by_cases h : m = n
  · subst h
    simp [State.grantSlot, Detection.measure]
  · simp [State.grantSlot, line_modDet_ne _ _ h, h]

theorem line_grantSlot_foldl (xs : List LineNo) (s : State) (m : LineNo) :
    (xs.foldl State.grantSlot s).line m =
      if m ∈ xs then { s.line m with det := (s.line m).det.measure } else s.line m := by
  induction xs generalizing s with
  | nil => rfl
  | cons x xs ih =>
    rw [List.foldl_cons, ih, line_grantSlot]
    by_cases hx : m = x
    · by_cases hm : m ∈ xs <;> simp [hx, Detection.measure]
    · simp [hx]

theorem line_grantSlots (s : State) (m : LineNo) : s.grantSlots.line m =
    if m ∈ s.granted then { s.line m with det := (s.line m).det.measure } else s.line m :=
  line_grantSlot_foldl ..

theorem line_grantSlots_of_not_mem {s : State} {m : LineNo} (h : m ∉ s.granted) : s.grantSlots.line m = s.line m := by
  rw [line_grantSlots, if_neg h]

/-- What a grant of slots leaves as it was, and the causes held, which it does not touch. -/
theorem grantSlot_foldl_keeps (xs : List LineNo) (s : State) :
    (xs.foldl State.grantSlot s).queue = s.queue ∧ (xs.foldl State.grantSlot s).slots = s.slots ∧
    (xs.foldl State.grantSlot s).store = s.store ∧ (xs.foldl State.grantSlot s).port = s.port ∧
    (xs.foldl State.grantSlot s).reports.held = s.reports.held := by
  induction xs generalizing s with
  | nil => exact ⟨rfl, rfl, rfl, rfl, rfl⟩
  | cons x xs ih => exact ih (s.grantSlot x)

@[simp] theorem queue_grantSlots (s : State) : s.grantSlots.queue = s.queue.drop (4 - s.slots.length) :=
  (grantSlot_foldl_keeps ..).1
@[simp] theorem slots_grantSlots (s : State) : s.grantSlots.slots = s.slots ++ s.granted :=
  (grantSlot_foldl_keeps ..).2.1
@[simp] theorem store_grantSlots (s : State) : s.grantSlots.store = s.store := (grantSlot_foldl_keeps ..).2.2.1
@[simp] theorem port_grantSlots (s : State) : s.grantSlots.port = s.port := (grantSlot_foldl_keeps ..).2.2.2.1
@[simp] theorem held_grantSlots (s : State) : s.grantSlots.reports.held = s.reports.held :=
  (grantSlot_foldl_keeps ..).2.2.2.2

/-! ## Coherence (R28, R29) -/

/-- The finder's coherence but for its last clause: a slot may be free while a line waits. -/
structure State.FinderCore (s : State) : Prop where
  queued : ∀ n : LineNo, n ∈ s.queue ↔ (s.line n).det.state = .queued
  measuring : ∀ n : LineNo, n ∈ s.slots ↔ (s.line n).det.state = .measuring
  queue_once : s.queue.Nodup
  slots_once : s.slots.Nodup
  four_slots : s.slots.length ≤ 4

theorem State.FinderCoherent.core {s : State} (h : s.FinderCoherent) : s.FinderCore :=
  ⟨h.queued, h.measuring, h.queue_once, h.slots_once, h.four_slots⟩

theorem mem_take_or_drop {α : Type} (k : Nat) (xs : List α) (x : α) : x ∈ xs ↔ x ∈ xs.take k ∨ x ∈ xs.drop k := by
  rw [← List.mem_append, List.take_append_drop]

theorem not_mem_drop_of_mem_take {α : Type} {k : Nat} {xs : List α} (once : xs.Nodup) {x : α} (h : x ∈ xs.take k) :
    x ∉ xs.drop k := by
  rw [← List.take_append_drop k xs] at once
  exact List.disjoint_of_nodup_append once h

/-- Granting the free slots restores the clause that no line waits while a slot is free. -/
theorem grantSlots_coherent {s : State} (h : s.FinderCore) : s.grantSlots.FinderCoherent where
  queued n := by
    rw [queue_grantSlots, line_grantSlots]
    by_cases hn : n ∈ s.granted
    · simp [hn, Detection.measure, not_mem_drop_of_mem_take h.queue_once hn]
    · have split := mem_take_or_drop (4 - s.slots.length) s.queue n
      rw [if_neg hn, ← h.queued, split]
      exact ⟨.inr, fun either => either.resolve_left hn⟩
  measuring n := by
    rw [slots_grantSlots, line_grantSlots, List.mem_append, h.measuring]
    by_cases hn : n ∈ s.granted
    · simp [hn, Detection.measure]
    · simp [hn]
  queue_once := by
    rw [queue_grantSlots]
    exact h.queue_once.sublist (List.drop_sublist ..)
  slots_once := by
    rw [slots_grantSlots]
    refine h.slots_once.append (h.queue_once.sublist (List.take_sublist ..)) fun n slot waits => ?_
    have measuring := (h.measuring n).1 slot
    rw [(h.queued n).1 (List.mem_of_mem_take waits)] at measuring
    cases measuring
  four_slots := by
    rw [slots_grantSlots, List.length_append, State.granted, List.length_take]
    have := h.four_slots
    omega
  served := by
    rw [queue_grantSlots, slots_grantSlots, List.drop_eq_nil_iff, List.length_append, State.granted, List.length_take]
    have := h.four_slots
    omega

/-- A line that has left queue and slots, with its record in neither of the two states. -/
theorem finderCore_leave {s t : State} {n : LineNo} (h : s.FinderCore) (queue : t.queue = s.queue.filter (· != n))
    (slots : t.slots = s.slots.filter (· != n)) (others : ∀ m, m ≠ n → (t.line m).det.state = (s.line m).det.state)
    (queued : (t.line n).det.state ≠ .queued) (measuring : (t.line n).det.state ≠ .measuring) : t.FinderCore where
  queued m := by
    by_cases e : m = n
    · subst e; simp [queue, queued]
    · simp [queue, e, others m e, h.queued]
  measuring m := by
    by_cases e : m = n
    · subst e; simp [slots, measuring]
    · simp [slots, e, others m e, h.measuring]
  queue_once := queue ▸ h.queue_once.filter _
  slots_once := slots ▸ h.slots_once.filter _
  four_slots := slots ▸ (List.length_filter_le ..).trans h.four_slots

/-- A line that has left queue and slots and joined the tail, QUEUED. -/
theorem finderCore_rejoin {s t : State} {n : LineNo} (h : s.FinderCore)
    (queue : t.queue = s.queue.filter (· != n) ++ [n]) (slots : t.slots = s.slots.filter (· != n))
    (others : ∀ m, m ≠ n → (t.line m).det.state = (s.line m).det.state)
    (queued : (t.line n).det.state = .queued) : t.FinderCore where
  queued m := by
    by_cases e : m = n
    · subst e; simp [queue, queued]
    · simp [queue, e, others m e, h.queued]
  measuring m := by
    by_cases e : m = n
    · subst e; simp [slots, queued]
    · simp [slots, e, others m e, h.measuring]
  queue_once := by
    rw [queue]
    refine (h.queue_once.filter _).append (List.nodup_singleton n) ?_
    simp
  slots_once := slots ▸ h.slots_once.filter _
  four_slots := slots ▸ (List.length_filter_le ..).trans h.four_slots

/-- A line with no detection stands neither in the queue nor in a slot. -/
theorem filter_ne_of_free {s : State} {n : LineNo} (h : s.FinderCore) (free : (s.line n).det.state = .none) :
    s.queue.filter (· != n) = s.queue ∧ s.slots.filter (· != n) = s.slots := by
  have away : ∀ xs : List LineNo, n ∉ xs → xs.filter (· != n) = xs := fun xs out =>
    List.filter_eq_self.2 fun m member => bne_iff_ne.2 fun e => out (e ▸ member)
  refine ⟨away _ fun member => ?_, away _ fun member => ?_⟩
  · cases free.symm.trans ((h.queued n).1 member)
  · cases free.symm.trans ((h.measuring n).1 member)

theorem finderCoherent_congr {s t : State} (h : s.FinderCoherent) (queue : t.queue = s.queue) (slots : t.slots = s.slots)
    (states : ∀ m, (t.line m).det.state = (s.line m).det.state) : t.FinderCoherent where
  queued m := by rw [queue, states]; exact h.queued m
  measuring m := by rw [slots, states]; exact h.measuring m
  queue_once := queue ▸ h.queue_once
  slots_once := slots ▸ h.slots_once
  four_slots := slots ▸ h.four_slots
  served := by rw [queue, slots]; exact h.served

/-! ## The finder's operations on line n

Each is an update of line n, a leaving or joining, and a grant. -/

/-- The record as a detection starts (R26). -/
def Detection.started (d : Detection) (bound : Bool) (limit : Nat) : Detection :=
  { d with
    state := .queued, attempts := 0, rejected := 0, counted := 0, least := none, verified := 0, adoption := .none
    bound := bound, limit := timerStart limit, meas := .idle }

/-- The record as a detection is over with an outcome (R40, R41). -/
def Detection.over (d : Detection) (o : DetectOutcome) (now : Word) : Detection :=
  { d with
    state := .none, outcome := o, concluded := now, limit := none, bound := false
    counted := if d.state = .measuring then 0 else d.counted
    least := if d.state = .measuring then none else d.least
    meas := .idle }

/-- The record after an attempt that failed below the fourth (R38). -/
def Detection.retried (d : Detection) : Detection :=
  { d with state := .queued, attempts := d.attempts + 1, counted := 0, least := none, meas := .idle }

/-- The line as it adopts a rate (R36). -/
def Line.adopted (l : Line) (a : Adoption) (p : Nat) : Line :=
  { l with
    period := p
    frame := l.frame.map fun f => { f with counted := false }
    det := { l.det with
      state := .verifying, adoption := a, verified := 0, counted := 0, least := none, meas := .idle } }

/-- The line as its detection concludes (R40). -/
def Line.concludedDetection (l : Line) (o : DetectOutcome) (now : Word) : Line :=
  { l with period := if o = .failed then l.settings.fallback else l.period, det := l.det.over o now }

theorem startDetection_eq (s : State) (n : LineNo) (bound : Bool) : s.startDetection n bound =
    (((s.modDet n fun d => d.started bound (s.line n).settings.detectLimit).mark n).joinQueue n).grantSlots := rfl

theorem requeue_eq (s : State) (n : LineNo) : s.requeue n =
    ((((s.modDet n Detection.retried).mark n).leaveFinder n).joinQueue n).grantSlots := rfl

theorem endDetection_eq (s : State) (n : LineNo) (o : DetectOutcome) : s.endDetection n o =
    (((s.modLine n fun l => l.concludedDetection o s.now).raise n .rateConcluded).leaveFinder n).grantSlots := rfl

theorem cancelDetection_eq {s : State} {n : LineNo} (h : (s.line n).det.inProgress = true) : s.cancelDetection n =
    (((s.modDet n fun d => d.over .cancelled s.now).mark n).leaveFinder n).grantSlots := if_pos h

theorem cancelDetection_none {s : State} {n : LineNo} (h : (s.line n).det.state = .none) : s.cancelDetection n = s :=
  if_neg (by simp [Detection.inProgress, h])

theorem inProgress_iff (d : Detection) : d.inProgress = true ↔ d.state ≠ .none := bne_iff_ne

/-- The state as line n adopts a rate, before it leaves the finder. -/
def State.takeRate (s : State) (n : LineNo) (a : Adoption) (p : Nat) : State :=
  ((s.markIf n ((s.line n).period != p)).modLine n fun l => l.adopted a p).mark n

theorem markIf_modLine (s : State) (n m : LineNo) (f : Line → Line) (b : Bool) :
    (s.modLine n f).markIf m b = (s.markIf m b).modLine n f := by cases b <;> rfl

theorem adopt_eq (s : State) (n : LineNo) (a : Adoption) (p : Nat) :
    s.adopt n a p = ((s.takeRate n a p).leaveFinder n).grantSlots := by
  rw [State.adopt, State.setPeriod, markIf_modLine, modLine_modLine]
  rfl

end Sys2Proof.Machine
end

section
/-! SUPPORT. What every event of one line keeps: the common part, the transaction in flight, the other lines, the
bounds, a locked output at REST and the Rate Finder's coherence. Each operation of a line is such an event. -/

namespace Sys2Proof.Machine

/-! ## The line itself after an operation of the finder -/

theorem not_mem_granted_leave (s : State) (n : LineNo) : n ∉ (s.leaveFinder n).granted := fun h => by
  have := List.mem_of_mem_take h
  simp [State.leaveFinder] at this

theorem line_leave_grant (s : State) (n : LineNo) : (s.leaveFinder n).grantSlots.line n = s.line n :=
  line_grantSlots_of_not_mem (not_mem_granted_leave s n)

theorem line_endDetection (s : State) (n : LineNo) (o : DetectOutcome) :
    (s.endDetection n o).line n = (s.line n).concludedDetection o s.now := by
  rw [endDetection_eq, line_leave_grant, line_raise, line_modLine_self]

theorem line_cancelDetection {s : State} {n : LineNo} (h : (s.line n).det.state ≠ .none) :
    (s.cancelDetection n).line n = { s.line n with det := (s.line n).det.over .cancelled s.now } := by
  rw [cancelDetection_eq ((inProgress_iff _).2 h), line_leave_grant, line_mark, line_modDet_self]

theorem line_adopt (s : State) (n : LineNo) (a : Adoption) (p : Nat) :
    (s.adopt n a p).line n = (s.line n).adopted a p := by
  rw [adopt_eq, line_leave_grant, State.takeRate, line_mark, line_modLine_self, line_markIf]

/-- A grant changes the detection record of a line at most. -/
theorem line_grantSlots_det (s : State) (m : LineNo) : s.grantSlots.line m =
    { s.line m with det := if m ∈ s.granted then (s.line m).det.measure else (s.line m).det } := by
  rw [line_grantSlots]
  split <;> rfl

/-- The state as line n rejoins the queue, before the free slots are granted. -/
def State.rejoined (s : State) (n : LineNo) : State :=
  (((s.modDet n Detection.retried).mark n).leaveFinder n).joinQueue n

/-- The state as a detection of line n starts, before the free slots are granted. -/
def State.detecting (s : State) (n : LineNo) (b : Bool) : State :=
  ((s.modDet n fun d => d.started b (s.line n).settings.detectLimit).mark n).joinQueue n

theorem line_rejoined (s : State) (n : LineNo) :
    (s.rejoined n).line n = { s.line n with det := (s.line n).det.retried } := line_modDet_self ..

theorem line_detecting (s : State) (n : LineNo) (b : Bool) : (s.detecting n b).line n =
    { s.line n with det := (s.line n).det.started b (s.line n).settings.detectLimit } :=
  line_modDet_self s n fun d => d.started b (s.line n).settings.detectLimit

theorem line_detecting_ne (s : State) {n m : LineNo} (b : Bool) (h : m ≠ n) : (s.detecting n b).line m = s.line m :=
  line_modDet_ne s (fun d => d.started b (s.line n).settings.detectLimit) h

/-! ## Events of line n -/

/-- What an update of a line keeps; `locked` says whether the line is in the Lock Set. -/
structure LineKeeps (locked : Bool) (l k : Line) : Prop where
  status  : k.status = l.status
  det     : k.det.state = l.det.state
  rest    : locked = true → l.out.state = .rest → k.out.state = .rest
  bounded : l.Bounded → k.Bounded

/-- What an event of line n keeps. -/
structure LineEvent (n : LineNo) (s t : State) : Prop where
  common   : t.common = s.common
  inFlight : t.port.inFlight = s.port.inFlight
  others   : t.others n = s.others n
  status   : (t.line n).status = (s.line n).status
  rest     : s.locked n = true → (s.line n).out.state = .rest → (t.line n).out.state = .rest
  bounded  : (s.line n).Bounded → (t.line n).Bounded
  finder   : s.FinderCoherent → t.FinderCoherent
  free     : s.FinderCoherent → ∀ m, m ≠ n → (s.line m).det.state = .none → (t.line m).det.state = .none

theorem locked_of_common {s t : State} (h : t.common = s.common) (n : LineNo) : t.locked n = s.locked n :=
  congrArg (fun c => c.lockSet.getLsbD n.val) h

section
variable {n : LineNo} {s t u : State}

theorem LineEvent.refl (n : LineNo) (s : State) : LineEvent n s s :=
  ⟨rfl, rfl, rfl, rfl, fun _ h => h, fun h => h, fun h => h, fun _ _ _ h => h⟩

theorem LineEvent.trans (a : LineEvent n s t) (b : LineEvent n t u) : LineEvent n s u where
  common := b.common.trans a.common
  inFlight := b.inFlight.trans a.inFlight
  others := b.others.trans a.others
  status := b.status.trans a.status
  rest locked rest := b.rest ((locked_of_common a.common n).trans locked) (a.rest locked rest)
  bounded h := b.bounded (a.bounded h)
  finder h := b.finder (a.finder h)
  free h m apart none := b.free (a.finder h) m apart (a.free h m apart none)

/-- An update of the reports or the store is an event of any line. -/
theorem LineEvent.of_lines (lines : t.lines = s.lines) (common : t.common = s.common)
    (inFlight : t.port.inFlight = s.port.inFlight) (queue : t.queue = s.queue) (slots : t.slots = s.slots) :
    LineEvent n s t where
  common := common
  inFlight := inFlight
  others := others_lines n lines
  status := by rw [line_congr lines]
  rest _ h := by rwa [line_congr lines]
  bounded h := by rwa [line_congr lines]
  finder h := finderCoherent_congr h queue slots fun m => by rw [line_congr lines]
  free _ m _ h := by rwa [line_congr lines]

theorem event_mark (s : State) (n m : LineNo) : LineEvent n s (s.mark m) := .of_lines rfl rfl rfl rfl rfl
theorem event_markIf (s : State) (n m : LineNo) (b : Bool) : LineEvent n s (s.markIf m b) := by
  cases b
  · exact .refl n s
  · exact event_mark s n m
theorem event_markHeader (s : State) (n : LineNo) : LineEvent n s s.markHeader := .of_lines rfl rfl rfl rfl rfl
theorem event_raise (s : State) (n m : LineNo) (c : LineCause) : LineEvent n s (s.raise m c) :=
  .of_lines rfl rfl rfl rfl rfl
theorem event_raiseIf (s : State) (n m : LineNo) (c : LineCause) (b : Bool) : LineEvent n s (s.raiseIf m c b) := by
  cases b
  · exact .refl n s
  · exact event_raise s n m c
theorem event_modBlock (s : State) (n : LineNo) (b : BlockNo) (f : Block → Block) : LineEvent n s (s.modBlock b f) :=
  .of_lines rfl rfl rfl rfl rfl

theorem event_modLine {f : Line → Line} (h : LineKeeps (s.locked n) (s.line n) (f (s.line n))) :
    LineEvent n s (s.modLine n f) where
  common := common_modLine ..
  inFlight := rfl
  others := others_modLine ..
  status := by rw [line_modLine_self]; exact h.status
  rest := by rw [line_modLine_self]; exact h.rest
  bounded := by rw [line_modLine_self]; exact h.bounded
  finder fc := finderCoherent_congr fc rfl rfl fun m => by
    by_cases e : m = n
    · rw [e, line_modLine_self, h.det]
    · rw [line_modLine_ne s f e]
  free _ m e none := by rwa [line_modLine_ne s f e]

theorem LineEvent.ite {c : Prop} [Decidable c] (yes : LineEvent n s t) (no : LineEvent n s u) :
    LineEvent n s (if c then t else u) := by
  split
  · exact yes
  · exact no

/-- An event where a test passes, and nothing otherwise. -/
theorem LineEvent.gated {c : Prop} [Decidable c] (yes : LineEvent n s t) : LineEvent n s (if c then t else s) :=
  yes.ite (.refl n s)

end

/-! ## The Rate Finder -/

theorem granted_queued {s : State} (h : s.FinderCore) {m : LineNo} (g : m ∈ s.granted) :
    (s.line m).det.state = .queued := (h.queued m).1 (List.mem_of_mem_take g)

/-- An update of line n with a leaving or joining, and then a grant. -/
theorem event_grantSlots {s t : State} {n : LineNo} (common : t.common = s.common)
    (inFlight : t.port.inFlight = s.port.inFlight) (others : ∀ m, m ≠ n → t.line m = s.line m)
    (keeps : LineKeeps (s.locked n) (s.line n) { t.line n with det := (s.line n).det })
    (core : s.FinderCoherent → t.FinderCore) : LineEvent n s t.grantSlots where
  common := (common_grantSlots t).trans common
  inFlight := by rw [port_grantSlots]; exact inFlight
  others := (others_grantSlots t n).trans (others_congr n others)
  status := by rw [line_grantSlots_det]; exact keeps.status
  rest := by rw [line_grantSlots_det]; exact keeps.rest
  bounded := by rw [line_grantSlots_det]; exact keeps.bounded
  finder fc := grantSlots_coherent (core fc)
  free fc m e none := by
    rw [line_grantSlots_of_not_mem, others m e, none]
    intro g
    have queued := granted_queued (core fc) g
    rw [others m e, none] at queued
    cases queued

/-- An update that leaves all but the detection record, P and the frame keeps the line. -/
theorem lineKeeps_det (locked : Bool) (l : Line) (p : Nat) (f : Option Frame) :
    LineKeeps locked l { l with period := p, frame := f } := ⟨rfl, rfl, fun _ h => h, id⟩

theorem event_leave_grant {s t : State} {n : LineNo} (common : t.common = s.common)
    (inFlight : t.port.inFlight = s.port.inFlight) (queue : t.queue = s.queue) (slots : t.slots = s.slots)
    (others : ∀ m, m ≠ n → t.line m = s.line m)
    (keeps : LineKeeps (s.locked n) (s.line n) { t.line n with det := (s.line n).det })
    (queued : (t.line n).det.state ≠ .queued) (measuring : (t.line n).det.state ≠ .measuring) :
    LineEvent n s (t.leaveFinder n).grantSlots :=
  event_grantSlots (s := s) (t := t.leaveFinder n) common inFlight others keeps fun fc =>
    finderCore_leave fc.core (by rw [State.leaveFinder, queue]) (by rw [State.leaveFinder, slots])
      (fun m e => congrArg (fun l => l.det.state) (others m e)) queued measuring

theorem event_cancelDetection (s : State) (n : LineNo) : LineEvent n s (s.cancelDetection n) := by
  by_cases h : (s.line n).det.inProgress = true
  · rw [cancelDetection_eq h]
    have line := line_modDet_self s n fun d => d.over .cancelled s.now
    refine event_leave_grant rfl rfl rfl rfl (fun m e => (line_mark ..).trans (line_modDet_ne s _ e)) ?_ ?_ ?_
    · rw [line_mark, line]; exact lineKeeps_det _ _ _ _
    · rw [line_mark, line]; exact nofun
    · rw [line_mark, line]; exact nofun
  · rw [State.cancelDetection, if_neg h]
    exact .refl n s

theorem event_endDetection (s : State) (n : LineNo) (o : DetectOutcome) : LineEvent n s (s.endDetection n o) := by
  rw [endDetection_eq]
  have line := line_modLine_self s n fun l => l.concludedDetection o s.now
  refine event_leave_grant rfl rfl rfl rfl (fun m e => (line_raise ..).trans (line_modLine_ne s _ e)) ?_ ?_ ?_
  · rw [line_raise, line]; exact lineKeeps_det _ _ _ _
  · rw [line_raise, line]; exact nofun
  · rw [line_raise, line]; exact nofun

theorem event_adopt (s : State) (n : LineNo) (a : Adoption) (p : Nat) : LineEvent n s (s.adopt n a p) := by
  rw [adopt_eq]
  have line : (s.takeRate n a p).line n = (s.line n).adopted a p := by
    rw [State.takeRate, line_mark, line_modLine_self, line_markIf]
  refine event_leave_grant ?_ ?_ ?_ ?_ (fun m e => ?_) ?_ ?_ ?_
  · simp [State.takeRate]
  · simp [State.takeRate]
  · exact markIf_queue ..
  · exact markIf_slots ..
  · rw [State.takeRate, line_mark, line_modLine_ne _ _ e, line_markIf]
  · rw [line]; exact lineKeeps_det _ _ _ _
  · rw [line]; exact nofun
  · rw [line]; exact nofun

theorem event_requeue (s : State) (n : LineNo) : LineEvent n s (s.requeue n) := by
  refine event_grantSlots (t := s.rejoined n) rfl rfl (fun m e => line_modDet_ne s _ e) ?_ fun fc =>
    finderCore_rejoin fc.core rfl rfl (fun m e => congrArg (fun l => l.det.state) (line_modDet_ne s _ e)) ?_
  · rw [line_rejoined]; exact lineKeeps_det _ _ _ _
  · rw [line_rejoined]; rfl

theorem event_startDetection {s : State} {n : LineNo} (b : Bool) (free : (s.line n).det.state = .none) :
    LineEvent n s (s.startDetection n b) := by
  refine event_grantSlots (t := s.detecting n b) rfl rfl (fun m e => line_detecting_ne s b e) ?_ fun fc => ?_
  · rw [line_detecting]; exact lineKeeps_det _ _ _ _
  · obtain ⟨queue, slots⟩ := filter_ne_of_free fc.core free
    refine finderCore_rejoin fc.core (congrArg (· ++ [n]) queue.symm) slots.symm
      (fun m e => congrArg (fun l => l.det.state) (line_detecting_ne s b e)) ?_
    rw [line_detecting]; rfl

theorem event_modDet {s : State} {n : LineNo} {f : Detection → Detection}
    (same : (f (s.line n).det).state = (s.line n).det.state) : LineEvent n s (s.modDet n f) :=
  event_modLine ⟨rfl, same, fun _ h => h, id⟩

theorem event_setPeriod (s : State) (n : LineNo) (p : Nat) : LineEvent n s (s.setPeriod n p) :=
  (event_modLine ⟨rfl, rfl, fun _ h => h, id⟩).trans (event_markIf _ n n _)

end Sys2Proof.Machine
end

section
/-! SUPPORT. Every operation on a line alone keeps what LineKeeps says, and every operation of an event on line n is an
event of that line (LineEvent). -/

namespace Sys2Proof.Machine

/-! ## Updates of a line -/

section
variable {locked : Bool} {l k m : Line}

theorem LineKeeps.refl (locked : Bool) (l : Line) : LineKeeps locked l l := ⟨rfl, rfl, fun _ h => h, id⟩

theorem LineKeeps.trans (a : LineKeeps locked l k) (b : LineKeeps locked k m) : LineKeeps locked l m :=
  ⟨b.status.trans a.status, b.det.trans a.det, fun h r => b.rest h (a.rest h r), fun h => b.bounded (a.bounded h)⟩

/-- An update of other fields than those the bounds and the invariants speak of. -/
theorem LineKeeps.of_fields (status : k.status = l.status) (det : k.det.state = l.det.state) (out : k.out = l.out)
    (history : k.history = l.history) (cap : k.cap = l.cap) (run : k.run.trail = l.run.trail)
    (staging : k.staging.length ≤ l.staging.length) : LineKeeps locked l k where
  status := status
  det := det
  rest _ h := by rwa [out]
  bounded h := by
    obtain ⟨hist, fifo, trail, staged, dropped⟩ := h
    refine ⟨?_, ?_, ?_, staging.trans staged, ?_⟩
    · rwa [history]
    · rwa [cap]
    · rwa [run]
    · rwa [cap]

theorem lineKeeps_cap {c : Capture} (fifo : l.cap.fifo.length ≤ 64 → c.fifo.length ≤ 64)
    (dropped : l.cap.dropped ≤ 4294967295 → c.dropped ≤ 4294967295) : LineKeeps locked l { l with cap := c } where
  status := rfl
  det := rfl
  rest _ h := h
  bounded := fun ⟨hist, full, trail, staged, lost⟩ => ⟨hist, fifo full, trail, staged, dropped lost⟩

theorem lineKeeps_run {r : Runner} (trail : l.run.trail.length ≤ 8 → r.trail.length ≤ 8) :
    LineKeeps locked l { l with run := r } where
  status := rfl
  det := rfl
  rest _ h := h
  bounded := fun ⟨hist, fifo, steps, staged, dropped⟩ => ⟨hist, fifo, trail steps, staged, dropped⟩

end

section
variable (locked : Bool) (l : Line)

theorem keeps_enforce (o : Owner) : LineKeeps locked l (l.enforce o) := by
  refine .of_fields rfl rfl rfl rfl rfl rfl ?_
  unfold Line.enforce
  dsimp only
  split
  · exact Nat.zero_le _
  · exact Nat.le_refl _

theorem keeps_setOwner (o : Owner) : LineKeeps locked l (l.setOwner o) := by
  have named : LineKeeps locked l { l with owner := o } := ⟨rfl, rfl, fun _ h => h, id⟩
  unfold Line.setOwner
  dsimp only
  split
  · exact named
  · exact named.trans (keeps_enforce locked _ o)

theorem keeps_orderBreak (b : BreakOrder) : LineKeeps locked l (l.orderBreak b) := by
  unfold Line.orderBreak
  split <;> exact ⟨rfl, rfl, fun _ h => h, id⟩

theorem keeps_afterBreak : LineKeeps locked l l.afterBreak := by
  unfold Line.afterBreak
  split <;> exact ⟨rfl, rfl, fun _ h => h, id⟩

theorem keeps_cutStepBreaks : LineKeeps locked l l.cutStepBreaks := by
  have kept : LineKeeps locked l { l with breaks := l.breaks.filter fun b => !b.byStep } := ⟨rfl, rfl, fun _ h => h, id⟩
  unfold Line.cutStepBreaks
  dsimp only
  split
  · split
    · exact kept.trans (keeps_afterBreak locked _)
    · exact kept
  · exact kept

theorem keeps_afterChar (c : TxChar) : LineKeeps locked l (l.afterChar c) := by
  unfold Line.afterChar
  split
  · exact ⟨rfl, rfl, fun _ h => h, id⟩
  · split
    · exact ⟨rfl, rfl, fun _ h => h, id⟩
    · split <;> exact ⟨rfl, rfl, fun _ h => h, id⟩

theorem keeps_countChar (src : TxSource) : LineKeeps locked l (l.countChar src) := by
  cases src with
  | operator => exact .of_fields rfl rfl rfl rfl rfl rfl (by simp [Line.countChar])
  | script => exact ⟨rfl, rfl, fun _ h => h, id⟩
  | nobody => exact .refl ..

theorem keeps_setHold : LineKeeps locked l l.setHold := by
  unfold Line.setHold
  split <;> exact ⟨rfl, rfl, fun _ h => h, id⟩

theorem keeps_clearHold : LineKeeps locked l l.clearHold := by
  unfold Line.clearHold
  split <;> exact ⟨rfl, rfl, fun _ h => h, id⟩

theorem length_newest_le (k : Nat) (history : List Byte) : (newest k history).length ≤ k := by
  rw [newest, List.length_drop]
  omega

theorem keeps_enterHistory (c : Byte) : LineKeeps locked l (l.enterHistory c) where
  status := rfl
  det := rfl
  rest _ h := h
  bounded := fun ⟨_, fifo, trail, staged, dropped⟩ => ⟨length_newest_le 24 _, fifo, trail, staged, dropped⟩

theorem keeps_applyFill (fill : Word) : LineKeeps locked l (l.applyFill fill) :=
  .of_fields rfl rfl rfl rfl rfl rfl (List.length_take_le' ..)

theorem keeps_fall (ticks : Nat) : LineKeeps locked l (l.fall ticks) := by
  unfold Line.fall
  dsimp only
  split <;> exact ⟨rfl, rfl, fun _ h => h, id⟩

theorem keeps_rise (ticks : Nat) : LineKeeps locked l (l.rise ticks) := by
  unfold Line.rise
  dsimp only
  split <;> exact ⟨rfl, rfl, fun _ h => h, id⟩

theorem keeps_applySettings (h : LineHost) (f : Format) : LineKeeps locked l (l.applySettings h f) := by
  have held : LineKeeps locked l (if f.flow = .none ∧ l.flowHeld = true then l.clearHold else l) := by
    split
    · exact keeps_clearHold locked l
    · exact .refl ..
  exact held.trans ⟨rfl, rfl, fun _ h => h, id⟩

end

/-! ## The output -/

variable (s : State) (n : LineNo)

theorem event_orderPulse {s : State} {n : LineNo} (w : Nat) (unlocked : s.locked n = false) :
    LineEvent n s (s.orderPulse n w) :=
  (event_modLine ⟨rfl, rfl, fun locked => (nomatch unlocked.symm.trans locked), id⟩).trans (event_mark _ n n)

theorem keeps_drive (locked : Bool) (l : Line) (now : Word) (o : OutputState) (free : locked = true → o = .rest) :
    LineKeeps locked l { l with out := l.out.drive now o } := by
  refine ⟨rfl, rfl, fun locked rest => ?_, id⟩
  simp [Output.drive, rest, free locked]

theorem event_orderDrive {s : State} {n : LineNo} {o : OutputState} (free : s.locked n = true → o = .rest) :
    LineEvent n s (s.orderDrive n o) :=
  (event_modLine (keeps_drive _ _ _ o free)).trans (event_markIf _ n n _)

/-! ## Capture -/

theorem event_modCap {s : State} {n : LineNo} {f : Capture → Capture}
    (fifo : (s.line n).cap.fifo.length ≤ 64 → (f (s.line n).cap).fifo.length ≤ 64)
    (dropped : (s.line n).cap.dropped ≤ 4294967295 → (f (s.line n).cap).dropped ≤ 4294967295) :
    LineEvent n s (s.modCap n f) := event_modLine (lineKeeps_cap fifo dropped)

theorem event_armTrigger (p : Pattern) (post : Nat) : LineEvent n s (s.armTrigger n p post) :=
  (event_modLine ⟨rfl, rfl, fun _ h => h, id⟩).trans (event_mark _ n n)

theorem event_triggerMatched : LineEvent n s (s.triggerMatched n) :=
  (event_modCap id id).trans (event_mark _ n n)

theorem event_triggerOff : LineEvent n s (s.triggerOff n) := by
  refine LineEvent.trans (event_modLine (lineKeeps_cap ?_ ?_)) (event_mark _ n n)
  · unfold Capture.triggerOff
    split <;> exact id
  · unfold Capture.triggerOff
    split <;> exact id

theorem event_raiseJudged (a b : Capture) : LineEvent n s (s.raiseJudged n a b) :=
  (event_raiseIf s n n _ _).trans (event_raiseIf _ n n _ _)

theorem satAdd_le (hi a k : Nat) : satAdd hi a k ≤ hi := Nat.min_le_left ..

theorem offer_accepted_lt {c : Capture} (h : c.offer = .accepted) : c.fifo.length < 64 := by
  unfold Capture.offer at h
  split at h
  · cases h
  · split at h
    · cases h
    · split at h
      · cases h
      · omega

theorem event_offer (b : Byte) : LineEvent n s (s.offer n b) := by
  unfold State.offer
  dsimp only
  split
  next accepted =>
    refine event_modCap (fun _ => ?_) id
    rw [List.length_append]
    exact offer_accepted_lt accepted
  · exact LineEvent.trans (event_modCap id fun _ => satAdd_le ..) (event_markIf _ n n _)
  · exact LineEvent.trans (event_modCap id fun _ => satAdd_le ..) (event_raise _ n n _)

theorem applyTaken_fifo (c : Capture) (mode : CaptureMode) (size : Nat) (taken : Word) :
    (c.applyTaken mode size taken).fifo = c.fifo ∧ (c.applyTaken mode size taken).dropped = c.dropped := by
  cases mode <;> exact ⟨rfl, rfl⟩

theorem event_applyTaken (taken : Word) : LineEvent n s (s.applyTaken n taken) := by
  refine LineEvent.trans (event_modCap ?_ ?_) ((event_markIf _ n n _).trans (event_raiseJudged _ n _ _))
  · rw [(applyTaken_fifo ..).1]
    exact id
  · rw [(applyTaken_fifo ..).2]
    exact id

theorem event_keepFifo (k : Nat) : LineEvent n s (s.keepFifo n k) :=
  LineEvent.trans (event_modCap (fun h => (List.length_take_le' k _).trans h) fun _ => satAdd_le ..)
    ((event_markIf _ n n _).trans (event_raiseIf _ n n _ _))

theorem event_settleFifo : LineEvent n s (s.settleFifo n) := by
  unfold State.settleFifo
  dsimp only
  split
  · exact event_keepFifo ..
  · exact event_keepFifo ..

theorem event_discardFifo : LineEvent n s (s.discardFifo n) := by
  unfold State.discardFifo
  split
  · exact .refl n s
  · exact event_keepFifo ..

theorem account_fifo (c : Capture) (k : Nat) :
    (c.account k).fifo = c.fifo ∧ (c.account k).dropped = c.dropped := by
  unfold Capture.account
  dsimp only
  split
  · split <;> exact ⟨rfl, rfl⟩
  · exact ⟨rfl, rfl⟩

theorem judge_fifo (c : Capture) (mode : CaptureMode) (size : Nat) :
    (c.judge mode size).fifo = c.fifo ∧ (c.judge mode size).dropped = c.dropped := by
  cases mode <;> exact ⟨rfl, rfl⟩

theorem written_fifo (c : Capture) (mode : CaptureMode) (size k : Nat) :
    (c.written mode size k).fifo = c.fifo.drop k ∧ (c.written mode size k).dropped = c.dropped := by
  unfold Capture.written
  dsimp only
  rw [(judge_fifo ..).1, (judge_fifo ..).2, (account_fifo ..).1, (account_fifo ..).2]
  cases mode <;> exact ⟨rfl, rfl⟩

theorem event_captureWritten (k : Nat) : LineEvent n s (s.captureWritten n k) := by
  refine LineEvent.trans (event_modCap ?_ ?_) ((event_mark _ n n).trans
    ((event_raiseIf _ n n _ _).trans (event_raiseJudged _ n _ _)))
  · intro h
    dsimp only
    rw [(written_fifo ..).1, List.length_drop]
    omega
  · intro h
    dsimp only
    rwa [(written_fifo ..).2]

/-! ## The runner -/

theorem event_modRun {s : State} {n : LineNo} {f : Runner → Runner}
    (trail : (s.line n).run.trail.length ≤ 8 → (f (s.line n).run).trail.length ≤ 8) : LineEvent n s (s.modRun n f) :=
  event_modLine (lineKeeps_run trail)

theorem length_pushTrail_le (trail : List TrailEntry) (e : TrailEntry) : (pushTrail trail e).length ≤ 8 := by
  rw [pushTrail, List.length_drop]
  omega

theorem event_endRun (kind : OutcomeKind) (code : Byte) (exit : TrailExit) :
    LineEvent n s (s.endRun n kind code exit) := by
  refine LineEvent.trans (event_modLine ?_)
    ((event_modBlock _ n _ _).trans ((event_markHeader _ n).trans (event_raise _ n n _)))
  refine LineKeeps.trans ?_ (keeps_setOwner _ _ _)
  exact ⟨rfl, rfl, fun _ h => h, id⟩

theorem event_cutRun (kind : OutcomeKind) (exit : TrailExit) : LineEvent n s (s.cutRun n kind exit) := by
  refine LineEvent.trans (event_modRun fun h => ?_) ((event_endRun _ n kind 0 exit).trans
    ((event_modLine (keeps_cutStepBreaks _ _)).trans ((event_cancelDetection _ n).trans
      (event_orderDrive fun _ => rfl))))
  split
  · exact h
  · exact length_pushTrail_le ..

theorem event_orderBreak (b : BreakOrder) : LineEvent n s (s.modLine n fun l => l.orderBreak b) :=
  event_modLine (by exact keeps_orderBreak ..)

theorem event_actBreak : LineEvent n s (s.actBreak n).1 := event_orderBreak s n _

theorem event_actDetect : LineEvent n s (s.actDetect n).1 := by
  unfold State.actDetect
  dsimp only
  split
  · exact event_modDet rfl
  next idle =>
    exact event_startDetection true (by simpa [Detection.inProgress] using idle)

theorem event_actDrive (o : OutputState) : LineEvent n s (s.actDrive n o).1 := by
  unfold State.actDrive
  split
  · exact .refl n s
  next unlocked => exact event_orderDrive fun locked => absurd locked unlocked

theorem event_actPulse : LineEvent n s (s.actPulse n).1 := by
  unfold State.actPulse
  split
  · exact .refl n s
  next unlocked => exact event_orderPulse _ (Bool.not_eq_true _ ▸ unlocked)

theorem event_actArm : LineEvent n s (s.actArm n).1 := by
  unfold State.actArm
  split
  · exact .refl n s
  · exact event_armTrigger ..

theorem event_actCountDown : LineEvent n s (s.actCountDown n).1 := by
  unfold State.actCountDown
  split
  · exact .refl n s
  · exact (event_modRun id).trans (event_mark _ n n)

theorem event_act : LineEvent n s (s.act n).1 := by
  unfold State.act
  split
  · exact .refl n s
  · exact .refl n s
  · exact .refl n s
  · exact event_actBreak s n
  · exact event_actPulse s n
  · exact event_actDrive s n .active
  · exact event_actDrive s n .rest
  · exact event_setPeriod s n _
  · exact event_actDetect s n
  · exact event_actArm s n
  · exact (event_modRun id).trans (event_raise _ n n _)
  · exact (event_modRun id).trans (event_mark _ n n)
  · exact event_actCountDown s n

theorem event_armWait : LineEvent n s (s.armWait n) :=
  (event_modLine ⟨rfl, rfl, fun _ h => h, id⟩).trans (event_mark _ n n)

/-- The Immediate Count as a step ends (R122). -/
def Runner.countAfter (r : Runner) (immediate : Bool) : Nat := if immediate then r.immediate + 1 else 0

/-- The line as a step ends, with the exit its trail shows (R121, R123). -/
def Line.stepEnded (l : Line) (immediate : Bool) (shown : TrailExit) (now : Word) : Line :=
  { l with
    tx := l.tx.dropScript
    run := { l.run with
      stepTimer := none
      waitTimer := none
      immediate := l.run.countAfter immediate
      trail := pushTrail l.run.trail ⟨l.run.current, shown, now⟩ } }

/-- The state as a step of line n ends, before the next one starts or the run ends. -/
def State.noteStep (s : State) (n : LineNo) (shown : TrailExit) (immediate : Bool) : State :=
  (s.modLine n fun l => l.stepEnded immediate shown s.now).mark n

section
variable {s : State} {n : LineNo} {exit : TrailExit} {immediate : Bool}

theorem endStep_step (step : ((s.step n).exit exit).kind = 0) (below : (s.line n).run.countAfter immediate < 64) :
    s.endStep n exit immediate = (s.noteStep n exit immediate, some ((s.step n).exit exit).value.toNat) := by
  have runs : ¬(((s.step n).exit exit).kind = 0 ∧ 64 ≤ (if immediate then (s.line n).run.immediate + 1 else 0)) :=
    fun ⟨_, full⟩ => absurd below (Nat.not_lt.2 full)
  simp only [State.endStep, if_neg runs, if_pos step]
  rfl

theorem endStep_runaway (step : ((s.step n).exit exit).kind = 0) (full : 64 ≤ (s.line n).run.countAfter immediate) :
    s.endStep n exit immediate = ((s.noteStep n .runaway immediate).endRun n .runaway 0 .runaway, none) := by
  have runaway : ((s.step n).exit exit).kind = 0 ∧ 64 ≤ (if immediate then (s.line n).run.immediate + 1 else 0) :=
    ⟨step, full⟩
  simp only [State.endStep, if_pos runaway]
  rfl

theorem endStep_end (ends : ((s.step n).exit exit).kind ≠ 0) : s.endStep n exit immediate =
    ((s.noteStep n exit immediate).endRun n .completed ((s.step n).exit exit).value exit, none) := by
  have runs : ¬(((s.step n).exit exit).kind = 0 ∧ 64 ≤ (if immediate then (s.line n).run.immediate + 1 else 0)) :=
    fun ⟨step, _⟩ => ends step
  simp only [State.endStep, if_neg runs, if_neg ends]
  rfl

end

theorem event_noteStep (shown : TrailExit) (immediate : Bool) : LineEvent n s (s.noteStep n shown immediate) :=
  LineEvent.trans (event_modLine ⟨rfl, rfl, fun _ h => h, fun ⟨hist, fifo, _, staged, dropped⟩ =>
    ⟨hist, fifo, length_pushTrail_le .., staged, dropped⟩⟩) (event_mark _ n n)

theorem event_endStep (exit : TrailExit) (immediate : Bool) : LineEvent n s (s.endStep n exit immediate).1 := by
  by_cases step : ((s.step n).exit exit).kind = 0
  · by_cases below : (s.line n).run.countAfter immediate < 64
    · rw [endStep_step step below]
      exact event_noteStep ..
    · rw [endStep_runaway step (Nat.not_lt.1 below)]
      exact (event_noteStep ..).trans (event_endRun ..)
  · rw [endStep_end step]
    exact (event_noteStep ..).trans (event_endRun ..)

theorem event_startStep (k : Nat) : LineEvent n s (s.startStep n k) :=
  (event_modRun id).trans ((event_modRun id).trans (event_mark _ n n))

theorem event_afterAct (b : Begun) (immediate : Bool) : LineEvent n s (s.afterAct n b immediate).1 := by
  unfold State.afterAct
  split
  · exact .refl n s
  · exact LineEvent.trans (event_modRun id) (event_endStep _ n .failure immediate)
  · have armed := event_armWait s n
    dsimp only
    split
    · exact armed.trans (event_endStep _ n .success immediate)
    · exact armed

theorem event_beginAct : LineEvent n s (s.beginAct n).1 :=
  LineEvent.trans (event_modRun id) ((event_act _ n).trans (event_afterAct _ n _ true))

theorem event_runSteps (fuel : Nat) (p : State × Option Nat) : LineEvent n p.1 (State.runSteps fuel n p) := by
  induction fuel generalizing p with
  | zero => exact .refl n _
  | succ fuel ih =>
    obtain ⟨s, next⟩ := p
    cases next with
    | none => exact .refl n _
    | some k => exact ((event_startStep s n k).trans (event_beginAct _ n)).trans (ih _)

theorem event_follow (p : State × Option Nat) : LineEvent n p.1 (follow n p) := event_runSteps n stepFuel p

theorem event_exitStep (exit : TrailExit) : LineEvent n s (s.exitStep n exit) :=
  (event_endStep s n exit false).trans (event_follow n _)

theorem event_actionEnded (a : Action) (failed : Option FailureReason) :
    LineEvent n s (s.actionEnded n a failed) := by
  unfold State.actionEnded
  refine LineEvent.gated (LineEvent.ite ?_ ?_)
  · exact (event_afterAct s n _ false).trans (event_follow n _)
  · exact (event_modRun id).trans (event_mark _ n n)

theorem event_startIfQueued : LineEvent n s (s.startIfQueued n) :=
  LineEvent.gated (event_follow n (s, some _))

theorem event_giveOwner (o : Owner) : LineEvent n s (s.giveOwner n o) := by
  have given := LineEvent.trans (event_modLine (f := fun _ => (s.line n).setOwner o) (keeps_setOwner _ _ o))
    (event_markIf _ n n (((s.line n).setOwner o).owner != (s.line n).owner ||
      ((s.line n).setOwner o).ownerInForce != (s.line n).ownerInForce))
  unfold State.giveOwner
  exact LineEvent.ite given (given.trans (event_startIfQueued _ n))

theorem event_changeCondition (c : Condition) : LineEvent n s (s.changeCondition n c) := by
  have changed := LineEvent.trans (event_modLine (s := s) (n := n) (f := fun l => { l.clearFresh with
    condition := c, conditionTime := s.now, lowRun := false, absentTimer := none, markTimer := none })
    ⟨rfl, rfl, fun _ h => h, id⟩) (event_raise _ n n .conditionChanged)
  unfold State.changeCondition
  exact LineEvent.ite (changed.trans (event_exitStep _ n .success)) changed

/-! ## Detections -/

theorem event_concludeDetection (o : DetectOutcome) : LineEvent n s (s.concludeDetection n o) := by
  have ended := event_endDetection s n o
  exact LineEvent.ite (ended.trans (event_actionEnded _ n .detectRate _)) ended

theorem event_failAttempt : LineEvent n s (s.failAttempt n) :=
  LineEvent.ite (event_requeue s n) (LineEvent.trans (event_modDet rfl) (event_concludeDetection _ n .failed))

theorem event_measured (pm : Nat) : LineEvent n s (s.measured n pm) := by
  have noted : LineEvent n s ((s.modDet n fun d => { d with measured := some pm }).mark n) :=
    LineEvent.trans (event_modDet rfl) (event_mark _ n n)
  unfold State.measured
  dsimp only
  split
  · exact noted.trans (event_adopt _ n _ _)
  · exact noted.trans (event_failAttempt _ n)

theorem judgeEdge_state (d : Detection) : d.judgeEdge.state = d.state := by
  unfold Detection.judgeEdge
  dsimp only
  split
  · rfl
  · split
    · rfl
    · split <;> rfl

theorem event_judgeEdge : LineEvent n s (s.judgeEdge n) := by
  have judged : LineEvent n s (s.modDet n Detection.judgeEdge) := event_modDet (judgeEdge_state _)
  unfold State.judgeEdge
  dsimp only
  split
  · exact LineEvent.ite (judged.trans (event_measured _ n _)) judged
  · exact judged

/-! ## Delivery and the condition monitor -/

theorem event_flowCharacter (c : Byte) : LineEvent n s (s.flowCharacter n c) := by
  refine LineEvent.trans (event_modLine ?_) (event_markIf _ n n _)
  split
  · split
    · exact keeps_setHold ..
    · split
      · exact keeps_clearHold ..
      · exact .refl ..
  · exact .refl ..

theorem event_verifyCharacter (counted errored : Bool) : LineEvent n s (s.verifyCharacter n counted errored) := by
  unfold State.verifyCharacter
  refine LineEvent.gated (LineEvent.ite ?_ ?_)
  · exact LineEvent.trans (event_modDet rfl) (event_failAttempt _ n)
  · have counts : LineEvent n s (s.modDet n fun d => { d with verified := d.verified + 1 }) := event_modDet rfl
    exact LineEvent.ite (counts.trans (event_concludeDetection _ n .settled)) counts

theorem event_runnerCharacter (m : ScriptMatch) (eligible : Bool) :
    LineEvent n s (s.runnerCharacter n m eligible) := by
  unfold State.runnerCharacter
  dsimp only
  split
  · exact LineEvent.gated (event_exitStep s n .success)
  · split
    · exact event_exitStep s n .success
    · exact event_exitStep s n .alternate
    · exact .refl n s
  · split
    · exact LineEvent.trans (event_modLine ⟨rfl, rfl, fun _ h => h, id⟩) (event_mark _ n n)
    · exact event_exitStep s n .success
    · exact .refl n s
  · exact event_modRun id
  · have counts : LineEvent n s (s.modRun n fun r => { r with countLeft := r.countLeft - 1 }) := event_modRun id
    exact LineEvent.gated (LineEvent.ite (counts.trans (event_exitStep _ n .success)) counts)
  · exact .refl n s

/-- The state as a delivered character has joined the FIFO and, if eligible, the history (R47, R62). -/
def State.entered (s : State) (n : LineNo) (c : Byte) (errored : Bool) : State :=
  if errored then
    ((s.offer n c).modLine n fun l => { l.clearFresh with garble := satAdd 65535 l.garble 1 }).markIf n
      ((s.line n).garble != 65535)
  else if !errored && (s.line n).eligible c then (s.offer n c).modLine n fun l => l.enterHistory c
  else s.offer n c

/-- The state as the trigger has judged an eligible character (R74). -/
def State.triggerTakes (s : State) (n : LineNo) (eligible : Bool) : State :=
  if eligible && (s.line n).triggerMatches then s.triggerMatched n else s

/-- The state as the trigger, the Rate Finder and the flow hold have taken a delivered character (log 18). -/
def State.consumed (s : State) (n : LineNo) (c : Byte) (errored counted eligible : Bool) : State :=
  let t := (s.triggerTakes n eligible).verifyCharacter n counted errored
  if errored then t else t.flowCharacter n c

theorem deliver_eq (s : State) (n : LineNo) (c : Byte) (errored counted : Bool) : s.deliver n c errored counted =
    let eligible := !errored && (s.line n).eligible c
    let t := s.entered n c errored
    let u := t.consumed n c errored counted eligible
    if (s.line n).run.state = .waiting then
      u.runnerCharacter n (if eligible then t.scriptMatch n else .nothing) eligible
    else u := rfl

theorem event_entered (c : Byte) (errored : Bool) : LineEvent n s (s.entered n c errored) := by
  have offered := event_offer s n c
  refine LineEvent.ite ?_ (LineEvent.ite ?_ offered)
  · exact offered.trans (LineEvent.trans (event_modLine ⟨rfl, rfl, fun _ h => h, id⟩) (event_markIf _ n n _))
  · exact offered.trans (event_modLine (by exact keeps_enterHistory ..))

theorem event_consumed (c : Byte) (errored counted eligible : Bool) :
    LineEvent n s (s.consumed n c errored counted eligible) := by
  have judged : LineEvent n s (s.triggerTakes n eligible) := LineEvent.gated (event_triggerMatched s n)
  have verified := judged.trans (event_verifyCharacter _ n counted errored)
  exact LineEvent.ite verified (verified.trans (event_flowCharacter _ n c))

theorem event_deliver (c : Byte) (errored counted : Bool) : LineEvent n s (s.deliver n c errored counted) := by
  have served := (event_entered s n c errored).trans (event_consumed _ n c errored counted
    (!errored && (s.line n).eligible c))
  exact LineEvent.ite (served.trans (event_runnerCharacter _ n _ _)) served

theorem event_breakSeen : LineEvent n s (s.breakSeen n) :=
  (event_modLine ⟨rfl, rfl, fun _ h => h, id⟩).trans (event_raise _ n n _)

theorem event_measureEdge (ticks : Nat) (falling : Bool) : LineEvent n s (s.measureEdge n ticks falling) := by
  have edge : ∀ t : State, LineEvent n t (if (t.line n).det.state = .measuring then
      t.modDet n fun d => { d with meas := d.meas.onEdge ticks falling } else t) := fun t =>
    LineEvent.gated (event_modDet rfl)
  unfold State.measureEdge
  exact LineEvent.gated ((LineEvent.gated (event_judgeEdge s n)).trans (edge _))

end Sys2Proof.Machine
end

section
/-! SUPPORT. Line n itself, the port, the store and the causes held after the operations that end a run and take a line
ON and OFF. -/

namespace Sys2Proof.Machine

/-! ## The end of a run (R124) -/

/-- The line as its run ends (R124, R145). -/
def Line.runEnded (l : Line) (kind : OutcomeKind) (code : Byte) (exit : TrailExit) (now : Word) : Line :=
  ({ l with run := l.run.finish kind code exit now, tx := l.tx.dropScript } : Line).setOwner l.ownerAfterRun

/-- A cancelled detection, where there is one (R41). -/
def Detection.cancelled (d : Detection) (now : Word) : Detection :=
  if d.state = .none then d else d.over .cancelled now

/-- The runner with the trail entry of a run cut in a step (R123, R124). -/
def Runner.cutTrail (r : Runner) (exit : TrailExit) (now : Word) : Runner :=
  if r.state = .queued then r else { r with trail := pushTrail r.trail ⟨r.current, exit, now⟩ }

/-- Keep the k oldest characters and count the rest as Dropped. -/
def Capture.keep (c : Capture) (k : Nat) : Capture :=
  { c.drop (c.fifo.length - k) with fifo := c.fifo.take k, draining := !(c.fifo.take k).isEmpty }

/-- The line with the detection cancelled, an order given to its output, its trigger off, or k characters kept. -/
def Line.undetected (l : Line) (now : Word) : Line := { l with det := l.det.cancelled now }
def Line.driven (l : Line) (now : Word) (o : OutputState) : Line := { l with out := l.out.drive now o }
def Line.disarmed (l : Line) : Line := { l with cap := l.cap.triggerOff l.settings.captureMode }
def Line.keep (l : Line) (k : Nat) : Line := { l with cap := l.cap.keep k }

/-! What these updates of a line leave, and what they make of the one field each. -/

@[simp] theorem undetected_status (l : Line) (now : Word) : (l.undetected now).status = l.status := rfl
@[simp] theorem undetected_settings (l : Line) (now : Word) : (l.undetected now).settings = l.settings := rfl
@[simp] theorem undetected_period (l : Line) (now : Word) : (l.undetected now).period = l.period := rfl
@[simp] theorem undetected_tx (l : Line) (now : Word) : (l.undetected now).tx = l.tx := rfl
@[simp] theorem undetected_breaks (l : Line) (now : Word) : (l.undetected now).breaks = l.breaks := rfl
@[simp] theorem undetected_owner (l : Line) (now : Word) : (l.undetected now).owner = l.owner := rfl
@[simp] theorem undetected_staging (l : Line) (now : Word) : (l.undetected now).staging = l.staging := rfl
@[simp] theorem undetected_history (l : Line) (now : Word) : (l.undetected now).history = l.history := rfl
@[simp] theorem undetected_cap (l : Line) (now : Word) : (l.undetected now).cap = l.cap := rfl
@[simp] theorem undetected_run (l : Line) (now : Word) : (l.undetected now).run = l.run := rfl
@[simp] theorem undetected_out (l : Line) (now : Word) : (l.undetected now).out = l.out := rfl
@[simp] theorem driven_status (l : Line) (now : Word) (o : OutputState) : (l.driven now o).status = l.status := rfl
@[simp] theorem driven_settings (l : Line) (now : Word) (o : OutputState) : (l.driven now o).settings = l.settings := rfl
@[simp] theorem driven_period (l : Line) (now : Word) (o : OutputState) : (l.driven now o).period = l.period := rfl
@[simp] theorem driven_tx (l : Line) (now : Word) (o : OutputState) : (l.driven now o).tx = l.tx := rfl
@[simp] theorem driven_breaks (l : Line) (now : Word) (o : OutputState) : (l.driven now o).breaks = l.breaks := rfl
@[simp] theorem driven_owner (l : Line) (now : Word) (o : OutputState) : (l.driven now o).owner = l.owner := rfl
@[simp] theorem driven_staging (l : Line) (now : Word) (o : OutputState) : (l.driven now o).staging = l.staging := rfl
@[simp] theorem driven_history (l : Line) (now : Word) (o : OutputState) : (l.driven now o).history = l.history := rfl
@[simp] theorem driven_det (l : Line) (now : Word) (o : OutputState) : (l.driven now o).det = l.det := rfl
@[simp] theorem driven_cap (l : Line) (now : Word) (o : OutputState) : (l.driven now o).cap = l.cap := rfl
@[simp] theorem driven_run (l : Line) (now : Word) (o : OutputState) : (l.driven now o).run = l.run := rfl
@[simp] theorem disarmed_status (l : Line) : (l.disarmed).status = l.status := rfl
@[simp] theorem disarmed_settings (l : Line) : (l.disarmed).settings = l.settings := rfl
@[simp] theorem disarmed_period (l : Line) : (l.disarmed).period = l.period := rfl
@[simp] theorem disarmed_tx (l : Line) : (l.disarmed).tx = l.tx := rfl
@[simp] theorem disarmed_breaks (l : Line) : (l.disarmed).breaks = l.breaks := rfl
@[simp] theorem disarmed_owner (l : Line) : (l.disarmed).owner = l.owner := rfl
@[simp] theorem disarmed_staging (l : Line) : (l.disarmed).staging = l.staging := rfl
@[simp] theorem disarmed_history (l : Line) : (l.disarmed).history = l.history := rfl
@[simp] theorem disarmed_det (l : Line) : (l.disarmed).det = l.det := rfl
@[simp] theorem disarmed_run (l : Line) : (l.disarmed).run = l.run := rfl
@[simp] theorem disarmed_out (l : Line) : (l.disarmed).out = l.out := rfl
@[simp] theorem keep_status (l : Line) (k : Nat) : (l.keep k).status = l.status := rfl
@[simp] theorem keep_settings (l : Line) (k : Nat) : (l.keep k).settings = l.settings := rfl
@[simp] theorem keep_period (l : Line) (k : Nat) : (l.keep k).period = l.period := rfl
@[simp] theorem keep_tx (l : Line) (k : Nat) : (l.keep k).tx = l.tx := rfl
@[simp] theorem keep_breaks (l : Line) (k : Nat) : (l.keep k).breaks = l.breaks := rfl
@[simp] theorem keep_owner (l : Line) (k : Nat) : (l.keep k).owner = l.owner := rfl
@[simp] theorem keep_staging (l : Line) (k : Nat) : (l.keep k).staging = l.staging := rfl
@[simp] theorem keep_history (l : Line) (k : Nat) : (l.keep k).history = l.history := rfl
@[simp] theorem keep_det (l : Line) (k : Nat) : (l.keep k).det = l.det := rfl
@[simp] theorem keep_run (l : Line) (k : Nat) : (l.keep k).run = l.run := rfl
@[simp] theorem keep_out (l : Line) (k : Nat) : (l.keep k).out = l.out := rfl
@[simp] theorem undetected_det (l : Line) (now : Word) : (l.undetected now).det = l.det.cancelled now := rfl
@[simp] theorem driven_out (l : Line) (now : Word) (o : OutputState) : (l.driven now o).out = l.out.drive now o := rfl
@[simp] theorem disarmed_cap (l : Line) : l.disarmed.cap = l.cap.triggerOff l.settings.captureMode := rfl
@[simp] theorem keep_cap (l : Line) (k : Nat) : (l.keep k).cap = l.cap.keep k := rfl

/-- The line as its run is ended from outside (R124, R128), but for its detection and its output. -/
def Line.runStopped (l : Line) (kind : OutcomeKind) (exit : TrailExit) (now : Word) : Line :=
  (({ l with run := l.run.cutTrail exit now } : Line).runEnded kind 0 exit now).cutStepBreaks

/-- The line as its run is ended from outside (R124, R128). -/
def Line.runCut (l : Line) (kind : OutcomeKind) (exit : TrailExit) (now : Word) : Line :=
  ((l.runStopped kind exit now).undetected now).driven now .rest

section
variable (s : State) (n : LineNo)

@[simp] theorem now_of_common {s t : State} (h : t.common = s.common) : t.now = s.now :=
  congrArg (fun c => c.clock.ms) h

theorem line_endRun (kind : OutcomeKind) (code : Byte) (exit : TrailExit) :
    (s.endRun n kind code exit).line n = (s.line n).runEnded kind code exit s.now := by
  simp only [State.endRun, line_raise, line_markHeader, line_modBlock, line_modLine_self]
  rfl

theorem line_noteStep (shown : TrailExit) (immediate : Bool) :
    (s.noteStep n shown immediate).line n = (s.line n).stepEnded immediate shown s.now := by
  simp only [State.noteStep, line_mark, line_modLine_self]

theorem line_orderDrive (o : OutputState) : (s.orderDrive n o).line n = (s.line n).driven s.now o := by
  simp only [State.orderDrive, line_markIf, line_modLine_self]
  rfl

theorem line_orderPulse (w : Nat) :
    (s.orderPulse n w).line n = { s.line n with out := (s.line n).out.pulse s.now w } := by
  simp only [State.orderPulse, line_mark, line_modLine_self]

theorem line_cancelDetection_self :
    (s.cancelDetection n).line n = (s.line n).undetected s.now := by
  by_cases h : (s.line n).det.state = .none
  · rw [cancelDetection_none h, Line.undetected, Detection.cancelled, if_pos h]
  · rw [line_cancelDetection h, Line.undetected, Detection.cancelled, if_neg h]

/-- The state of a run cut, but for its detection and its output. -/
def State.runStopped (s : State) (n : LineNo) (kind : OutcomeKind) (exit : TrailExit) : State :=
  ((s.modRun n fun r => r.cutTrail exit s.now).endRun n kind 0 exit).modLine n Line.cutStepBreaks

theorem cutRun_eq (kind : OutcomeKind) (exit : TrailExit) :
    s.cutRun n kind exit = ((s.runStopped n kind exit).cancelDetection n).orderDrive n .rest := rfl

theorem line_runStopped (kind : OutcomeKind) (exit : TrailExit) : (s.runStopped n kind exit).line n =
    (s.line n).runStopped kind exit s.now := by
  rw [State.runStopped, line_modLine_self, line_endRun, line_modRun_self]
  rfl

theorem line_cutRun (kind : OutcomeKind) (exit : TrailExit) :
    (s.cutRun n kind exit).line n = (s.line n).runCut kind exit s.now := by
  rw [cutRun_eq, line_orderDrive, now_of_common (common_cancelDetection ..), line_cancelDetection_self,
    line_runStopped]
  rfl

/-! ## The FIFO at line off (R78, R80) -/

/-- How many characters the settlement of a line's FIFO keeps at most (log 15). -/
def State.keepCount (s : State) (n : LineNo) : Nat :=
  match (s.line n).settings.captureMode with
  | .roll => (s.line n).cap.fifo.length
  | .hold => max ((s.line n).cap.room (s.line n).settings.captureSize) (s.carriedChars n)

theorem settleFifo_eq : s.settleFifo n = s.keepFifo n (s.keepCount n) := by
  unfold State.settleFifo State.keepCount
  dsimp only
  split <;> simp only [*]

theorem line_keepFifo (k : Nat) : (s.keepFifo n k).line n = (s.line n).keep k := by
  simp only [State.keepFifo, line_raiseIf, line_markIf, line_modCap_self]
  rfl

theorem line_triggerOff : (s.triggerOff n).line n = (s.line n).disarmed := by
  simp only [State.triggerOff, line_mark, line_modLine_self]
  rfl

/-! ## The port and the store -/

@[simp] theorem port_cancelDetection : (s.cancelDetection n).port = s.port := by
  unfold State.cancelDetection
  split
  · rw [port_grantSlots]
    rfl
  · rfl

@[simp] theorem store_cancelDetection : (s.cancelDetection n).store = s.store := by
  unfold State.cancelDetection
  split
  · rw [store_grantSlots]
    rfl
  · rfl

@[simp] theorem port_endRun (kind : OutcomeKind) (code : Byte) (exit : TrailExit) :
    (s.endRun n kind code exit).port = s.port := rfl

@[simp] theorem port_orderDrive (o : OutputState) : (s.orderDrive n o).port = s.port := markIf_port ..
@[simp] theorem port_keepFifo (k : Nat) : (s.keepFifo n k).port = s.port :=
  (raiseIf_port ..).trans (markIf_port ..)
@[simp] theorem port_triggerOff : (s.triggerOff n).port = s.port := rfl

@[simp] theorem port_cutRun (kind : OutcomeKind) (exit : TrailExit) : (s.cutRun n kind exit).port = s.port := by
  simp only [State.cutRun, port_orderDrive, port_cancelDetection, modLine_port, port_endRun, modRun_port]

theorem carriedChars_congr {s t : State} (h : t.port = s.port) (n : LineNo) : t.carriedChars n = s.carriedChars n := by
  unfold State.carriedChars
  rw [h]

theorem keepCount_congr {s t : State} {n : LineNo} (settings : (t.line n).settings = (s.line n).settings)
    (fifo : (t.line n).cap.fifo = (s.line n).cap.fifo) (used : (t.line n).cap.used = (s.line n).cap.used)
    (port : t.port = s.port) : t.keepCount n = s.keepCount n := by
  unfold State.keepCount Capture.room
  rw [settings, fifo, used, carriedChars_congr port]

/-! ## A line goes OFF (R5) -/

/-- The state as a line goes OFF, with its run and detection ended and its output at REST. -/
def State.offWork (s : State) (n : LineNo) (kind : OutcomeKind) (exit : TrailExit) : State :=
  ((((if (s.line n).run.state = .idle then s else s.cutRun n kind exit).cancelDetection n).triggerOff n).settleFifo
    n).orderDrive n .rest

theorem lineOff_eq (kind : OutcomeKind) (exit : TrailExit) : s.lineOff n kind exit =
    ((((s.offWork n kind exit).makeStale fun j => j == .fetch n)).modLine n Line.goOff).mark n := rfl

/-- The line with its run and detection ended, as it goes OFF. -/
def Line.workEnded (l : Line) (kind : OutcomeKind) (exit : TrailExit) (now : Word) : Line :=
  (if l.run.state = .idle then l else l.runCut kind exit now).undetected now

/-- The line as all work on it has ended; k characters are kept at most. -/
def Line.offWork (l : Line) (kind : OutcomeKind) (exit : TrailExit) (now : Word) (k : Nat) : Line :=
  ((l.workEnded kind exit now).disarmed.keep k).driven now .rest

theorem setOwner_fields (l : Line) (o : Owner) : (l.setOwner o).settings = l.settings ∧ (l.setOwner o).cap = l.cap ∧
    (l.setOwner o).run = l.run ∧ (l.setOwner o).det = l.det ∧ (l.setOwner o).out = l.out ∧ (l.setOwner o).tx = l.tx ∧
    (l.setOwner o).status = l.status ∧ (l.setOwner o).breaks = l.breaks := by
  unfold Line.setOwner
  dsimp only
  split <;> exact ⟨rfl, rfl, rfl, rfl, rfl, rfl, rfl, rfl⟩

theorem cutStepBreaks_fields (l : Line) : l.cutStepBreaks.settings = l.settings ∧ l.cutStepBreaks.cap = l.cap ∧
    l.cutStepBreaks.run = l.run ∧ l.cutStepBreaks.det = l.det ∧ l.cutStepBreaks.out = l.out := by
  unfold Line.cutStepBreaks Line.afterBreak
  dsimp only
  split
  · split
    · split <;> exact ⟨rfl, rfl, rfl, rfl, rfl⟩
    · exact ⟨rfl, rfl, rfl, rfl, rfl⟩
  · exact ⟨rfl, rfl, rfl, rfl, rfl⟩

theorem runEnded_fields (l : Line) (kind : OutcomeKind) (code : Byte) (exit : TrailExit) (now : Word) :
    (l.runEnded kind code exit now).settings = l.settings ∧ (l.runEnded kind code exit now).cap = l.cap ∧
    (l.runEnded kind code exit now).run = l.run.finish kind code exit now ∧
    (l.runEnded kind code exit now).det = l.det ∧ (l.runEnded kind code exit now).out = l.out ∧
    (l.runEnded kind code exit now).tx = l.tx.dropScript ∧ (l.runEnded kind code exit now).status = l.status ∧
    (l.runEnded kind code exit now).breaks = l.breaks := setOwner_fields _ _

/-- What a run's end from outside makes of the runner, and what it leaves. -/
theorem runStopped_fields (l : Line) (kind : OutcomeKind) (exit : TrailExit) (now : Word) :
    (l.runStopped kind exit now).settings = l.settings ∧ (l.runStopped kind exit now).cap = l.cap ∧
    (l.runStopped kind exit now).run = (l.run.cutTrail exit now).finish kind 0 exit now ∧
    (l.runStopped kind exit now).det = l.det ∧ (l.runStopped kind exit now).out = l.out := by
  obtain ⟨settings, cap, run, det, out⟩ := cutStepBreaks_fields
    (({ l with run := l.run.cutTrail exit now } : Line).runEnded kind 0 exit now)
  obtain ⟨settings', cap', run', det', out', -⟩ := runEnded_fields { l with run := l.run.cutTrail exit now } kind 0 exit now
  exact ⟨settings.trans settings', cap.trans cap', run.trans run', det.trans det', out.trans out'⟩

theorem workEnded_fields (l : Line) (kind : OutcomeKind) (exit : TrailExit) (now : Word) :
    (l.workEnded kind exit now).settings = l.settings ∧ (l.workEnded kind exit now).cap = l.cap := by
  unfold Line.workEnded
  split
  · exact ⟨rfl, rfl⟩
  · obtain ⟨settings, cap, -⟩ := runStopped_fields l kind exit now
    simp only [Line.runCut, undetected_settings, undetected_cap, driven_settings, driven_cap]
    exact ⟨settings, cap⟩

theorem line_workEnded (kind : OutcomeKind) (exit : TrailExit) :
    ((if (s.line n).run.state = .idle then s else s.cutRun n kind exit).cancelDetection n).line n =
      (s.line n).workEnded kind exit s.now := by
  rw [line_cancelDetection_self]
  unfold Line.workEnded
  split
  · rfl
  · rw [line_cutRun, now_of_common (common_cutRun ..)]

theorem triggerOff_fields (c : Capture) (mode : CaptureMode) :
    (c.triggerOff mode).fifo = c.fifo ∧ (c.triggerOff mode).used = c.used := by
  cases mode <;> exact ⟨rfl, rfl⟩

theorem line_offWork (kind : OutcomeKind) (exit : TrailExit) :
    (s.offWork n kind exit).line n = (s.line n).offWork kind exit s.now (s.keepCount n) := by
  have work := line_workEnded s n kind exit
  unfold State.offWork
  generalize hw : (if (s.line n).run.state = .idle then s else s.cutRun n kind exit).cancelDetection n = w at *
  have common : w.common = s.common := by
    rw [← hw, common_cancelDetection]
    exact common_ite rfl (common_cutRun ..)
  have port : w.port = s.port := by
    rw [← hw, port_cancelDetection]
    split
    · rfl
    · exact port_cutRun ..
  obtain ⟨settings, cap⟩ := workEnded_fields (s.line n) kind exit s.now
  have count : (w.triggerOff n).keepCount n = s.keepCount n := by
    refine keepCount_congr ?_ ?_ ?_ port
    · rw [line_triggerOff, work, disarmed_settings, settings]
    · rw [line_triggerOff, work, disarmed_cap, (triggerOff_fields ..).1, cap]
    · rw [line_triggerOff, work, disarmed_cap, (triggerOff_fields ..).2, cap]
  have now : ((w.triggerOff n).keepFifo n (s.keepCount n)).now = s.now :=
    now_of_common ((common_keepFifo ..).trans ((common_triggerOff ..).trans common))
  rw [settleFifo_eq, count, line_orderDrive, now, line_keepFifo, line_triggerOff, work]
  rfl

@[simp] theorem line_makeStale (s : State) (p : Job → Bool) (n : LineNo) : (s.makeStale p).line n = s.line n := rfl

theorem line_lineOff (kind : OutcomeKind) (exit : TrailExit) :
    (s.lineOff n kind exit).line n = ((s.line n).offWork kind exit s.now (s.keepCount n)).goOff := by
  rw [lineOff_eq, line_mark, line_modLine_self, line_makeStale, line_offWork]

/-- A line with no run in progress, its output at REST and no detection. -/
def Line.Idle (l : Line) : Prop := l.run.state = .idle ∧ l.out.state = .rest ∧ l.det.state = .none

theorem drive_rest_state (o : Output) (now : Word) : (o.drive now .rest).state = .rest := by
  unfold Output.drive
  split
  · assumption
  · rfl

theorem cancelled_state (d : Detection) (now : Word) : (d.cancelled now).state = .none := by
  unfold Detection.cancelled
  split
  · assumption
  · rfl

theorem workEnded_run (l : Line) (kind : OutcomeKind) (exit : TrailExit) (now : Word) :
    (l.workEnded kind exit now).run =
      if l.run.state = .idle then l.run else (l.run.cutTrail exit now).finish kind 0 exit now := by
  unfold Line.workEnded
  split
  · rfl
  · obtain ⟨-, -, run, -⟩ := runStopped_fields l kind exit now
    rw [undetected_run, Line.runCut, driven_run, undetected_run, run]

/-- Once all work on it has ended, a line is idle. -/
theorem offWork_idle (l : Line) (kind : OutcomeKind) (exit : TrailExit) (now : Word) (k : Nat) :
    (l.offWork kind exit now k).Idle := by
  refine ⟨?_, drive_rest_state _ now, cancelled_state _ now⟩
  rw [Line.offWork, driven_run, keep_run, disarmed_run, workEnded_run]
  split
  · assumption
  · rfl

theorem event_offWork (kind : OutcomeKind) (exit : TrailExit) : LineEvent n s (s.offWork n kind exit) :=
  (LineEvent.ite (.refl n s) (event_cutRun s n kind exit)).trans ((event_cancelDetection _ n).trans
    ((event_triggerOff _ n).trans ((event_settleFifo _ n).trans (event_orderDrive fun _ => rfl))))

end

end Sys2Proof.Machine
end

section
/-! SUPPORT. The invariants of the part (Sys2Proof/Safety.lean): what each row of the table keeps of them. Bounds, Station
Base and the Lock Set are kept from every state; the part's coherence and the Rate Finder's are kept together. -/

namespace Sys2Proof.Machine

/-! ## The requests are events of their line -/

section
variable (s : State) (n : LineNo)

theorem event_acceptStart (b : BlockNo) (entry : Nat) : LineEvent n s (s.acceptStart n b entry) := by
  have queued : LineEvent n s (((s.modRun n fun r => { r with
      state := .queued, block := b, entry := entry, counter := 0, immediate := 0, trail := [], failure := .none }).modBlock
        b fun k => { k with useCount := k.useCount + 1 }).markHeader.mark n) :=
    LineEvent.trans (event_modRun fun _ => Nat.zero_le _) ((event_modBlock _ n b _).trans
      ((event_markHeader _ n).trans (event_mark _ n n)))
  exact LineEvent.ite (queued.trans (event_giveOwner _ n .script)) queued

theorem event_judgeStart (block entry : Word) : LineEvent n s (s.judgeStart n block entry).1 := by
  unfold State.judgeStart
  split
  · exact .refl n s
  · split
    · dsimp only
      split
      · exact .refl n s
      · split
        · exact .refl n s
        · split
          · exact .refl n s
          · exact event_acceptStart ..
    · exact .refl n s

theorem event_acceptPause (p : PausedFrom) : LineEvent n s (s.acceptPause n p) := by
  have paused : LineEvent n s ((s.modRun n fun r => { r with state := .paused p }).mark n) :=
    LineEvent.trans (event_modRun id) (event_mark _ n n)
  exact LineEvent.ite (paused.trans (event_giveOwner _ n .lent)) paused

theorem event_judgePause : LineEvent n s (s.judgePause n).1 := by
  unfold State.judgePause
  split
  · exact .refl n s
  · split
    · exact event_acceptPause s n .acting
    · exact event_acceptPause s n .waiting
    · exact .refl n s

theorem event_acceptResume (p : PausedFrom) : LineEvent n s (s.acceptResume n p) := by
  have resumed : LineEvent n s ((s.modLine n fun l => { l with
      scriptFresh := 0
      run := { l.run with
        state := match p with | .acting => .acting | .waiting => .waiting
        actionResult := none } }).mark n) :=
    LineEvent.trans (event_modLine ⟨rfl, rfl, fun _ h => h, id⟩) (event_mark _ n n)
  have owned : ∀ t : State, LineEvent n t (if (t.line n).owner = .lent then t.giveOwner n .script else t) := fun t =>
    LineEvent.gated (event_giveOwner t n .script)
  have settled := resumed.trans (owned _)
  unfold State.acceptResume
  dsimp only
  split
  · exact settled
  · exact settled.trans ((event_afterAct _ n .completed false).trans (event_follow n _))
  · exact settled.trans (event_exitStep _ n .failure)
  · split
    · exact settled.trans (event_exitStep _ n .success)
    · exact settled.trans (event_exitStep _ n .success)
    · exact settled

theorem event_judgeResume : LineEvent n s (s.judgeResume n).1 := by
  unfold State.judgeResume
  split
  · exact .refl n s
  · split
    · exact event_acceptResume ..
    · exact .refl n s

theorem event_judgeAbort : LineEvent n s (s.judgeAbort n).1 :=
  LineEvent.ite (.refl n s) (event_cutRun ..)

theorem event_judgeBreak (length : Word) : LineEvent n s (s.judgeBreak n length).1 := by
  unfold State.judgeBreak
  dsimp only
  split
  · exact .refl n s
  · split
    · exact .refl n s
    · split
      · exact .refl n s
      · exact event_orderBreak ..

theorem unlocked_of_accepted {s : State} {n : LineNo} (h : s.outputRefusal n = none) : s.locked n = false := by
  unfold State.outputRefusal at h
  split at h
  · cases h
  · split at h
    · cases h
    next unlocked => simpa using unlocked

theorem event_judgePulse (width : Word) : LineEvent n s (s.judgePulse n width).1 := by
  unfold State.judgePulse
  split
  · exact .refl n s
  next accepted => exact event_orderPulse _ (unlocked_of_accepted accepted)

theorem event_judgeDrive (o : OutputState) : LineEvent n s (s.judgeDrive n o).1 := by
  unfold State.judgeDrive
  split
  · exact .refl n s
  next accepted =>
    exact event_orderDrive fun locked => nomatch (unlocked_of_accepted accepted).symm.trans locked

theorem event_judgeApply (h : LineHost) : LineEvent n s (s.judgeApply n h).1 := by
  unfold State.judgeApply
  dsimp only
  split
  · exact .refl n s
  · split
    · exact .refl n s
    · split
      · exact .refl n s
      · exact LineEvent.trans (event_modLine (by exact keeps_applySettings ..)) (event_mark _ n n)

theorem event_judgeDetect : LineEvent n s (s.judgeDetect n).1 := by
  unfold State.judgeDetect
  dsimp only
  split
  · exact .refl n s
  · split
    · exact .refl n s
    next free =>
      have none : (s.line n).det.state = .none := by simpa [Detection.inProgress] using (not_or.1 free).2
      exact event_startDetection false none

theorem event_judgeArm (post : Word) (p : PatternRecord) : LineEvent n s (s.judgeArm n post p).1 := by
  unfold State.judgeArm
  split
  · exact .refl n s
  · split
    · exact .refl n s
    · exact event_armTrigger ..

theorem event_judgeDisarm : LineEvent n s (s.judgeDisarm n).1 := by
  unfold State.judgeDisarm
  split
  · exact event_triggerOff s n
  · exact event_triggerOff s n
  · exact .refl n s

theorem event_judgeRequest (h : LineHost) : LineEvent n s (s.judgeRequest n h).1 := by
  unfold State.judgeRequest
  split
  · exact event_judgeStart ..
  · exact event_judgePause s n
  · exact event_judgeResume s n
  · exact event_judgeAbort s n
  · exact event_judgeBreak ..
  · exact event_judgePulse ..
  · exact event_judgeDrive ..
  · exact event_judgeDrive ..
  · exact event_judgeApply ..
  · exact event_judgeDetect s n
  · exact event_judgeArm ..
  · exact event_judgeDisarm s n
  · exact event_triggerOff s n
  · exact .refl n s

theorem event_recordResult {s : State} {n : LineNo} (tag : Word) {p : State × ReqResult} (event : LineEvent n s p.1) :
    LineEvent n s (State.recordResult n tag p) :=
  event.trans (LineEvent.trans (event_modLine ⟨rfl, rfl, fun _ h => h, id⟩) (event_raise _ n n _))

theorem event_examineSlot (h : LineHost) : LineEvent n s (s.examineSlot n h) := by
  unfold State.examineSlot
  split
  · exact LineEvent.trans (event_modLine ⟨rfl, rfl, fun _ h => h, id⟩) (event_mark _ n n)
  · exact (LineEvent.refl n s).ite (event_recordResult _ (event_judgeRequest s n h))

theorem event_applyFill (fill : Word) : LineEvent n s (s.applyFill n fill) :=
  LineEvent.gated (LineEvent.trans (event_modLine (by exact keeps_applyFill ..)) (event_markIf _ n n _))

theorem event_applyClaim (claim wentOn : Bool) : LineEvent n s (s.applyClaim n claim wentOn) := by
  have taken : LineEvent n s ((s.modLine n fun l => { l with claim := claim, claimSeen := claim }).markIf n
      ((s.line n).claimSeen != claim)) :=
    LineEvent.trans (event_modLine ⟨rfl, rfl, fun _ h => h, id⟩) (event_markIf _ n n _)
  unfold State.applyClaim
  dsimp only
  split
  · split
    · exact taken.trans (event_giveOwner ..)
    · exact taken
  · exact taken

end

/-! ## What a row keeps -/

/-- Station Base stays aligned, the lines stay within their bounds and the Lock Set loses no line. -/
structure KeepsBounds (s t : State) : Prop where
  base    : s.BaseAligned → t.BaseAligned
  bounded : s.Bounded → t.Bounded
  lock    : s.lockSet &&& t.lockSet = s.lockSet

/-- The part and its Rate Finder stay coherent. -/
def KeepsCoherent (s t : State) : Prop := s.Coherent → s.FinderCoherent → t.Coherent ∧ t.FinderCoherent

structure StepKeeps (s t : State) : Prop where
  bounds   : KeepsBounds s t
  coherent : KeepsCoherent s t

section
variable {s t u : State}

theorem KeepsBounds.trans (a : KeepsBounds s t) (b : KeepsBounds t u) : KeepsBounds s u where
  base h := b.base (a.base h)
  bounded h := b.bounded (a.bounded h)
  lock := by
    rw [← a.lock, BitVec.and_assoc, b.lock]

theorem KeepsCoherent.trans (a : KeepsCoherent s t) (b : KeepsCoherent t u) : KeepsCoherent s u := fun coherent finder =>
  have ⟨coherent', finder'⟩ := a coherent finder
  b coherent' finder'

theorem StepKeeps.trans (a : StepKeeps s t) (b : StepKeeps t u) : StepKeeps s u :=
  ⟨a.bounds.trans b.bounds, a.coherent.trans b.coherent⟩

/-- The lines of a coherent part: those in the Lock Set have their output at REST, those not ON are idle. -/
structure State.LinesFit (s : State) : Prop where
  locked_rest : ∀ n : LineNo, s.locked n = true → (s.line n).out.state = .rest
  off_idle : ∀ n : LineNo, (s.line n).status ≠ .on → (s.line n).Idle

theorem State.Coherent.fit (h : s.Coherent) : s.LinesFit := ⟨h.locked_rest, h.off_idle⟩

/-- A line that is at work is ON. -/
theorem State.LinesFit.on_of_busy {n : LineNo} (h : s.LinesFit) (busy : ¬(s.line n).Idle) : (s.line n).status = .on := by
  by_contra off
  exact busy (h.off_idle n off)

/-- Every line but n, after an event of line n, is as before but for its detection record. -/
theorem LineEvent.other {n m : LineNo} (e : LineEvent n s t) (apart : m ≠ n) :
    t.line m = { s.line m with det := (t.line m).det } :=
  (sameButDetection_of_others e.others apart).symm

theorem LineEvent.status_eq {n : LineNo} (e : LineEvent n s t) (m : LineNo) :
    (t.line m).status = (s.line m).status := by
  by_cases apart : m = n
  · rw [apart]; exact e.status
  · rw [e.other apart]

theorem LineEvent.linesFit {n : LineNo} (e : LineEvent n s t) (fit : s.LinesFit) (finder : s.FinderCoherent)
    (live : (s.line n).status = .on ∨ (t.line n).Idle) : t.LinesFit where
  locked_rest m locked := by
    rw [locked_of_common e.common] at locked
    by_cases apart : m = n
    · subst apart
      exact e.rest locked (fit.locked_rest m locked)
    · rw [e.other apart]
      exact fit.locked_rest m locked
  off_idle m off := by
    rw [e.status_eq] at off
    by_cases apart : m = n
    · subst apart
      exact live.resolve_left off
    · have ⟨run, out, det⟩ := fit.off_idle m off
      have free := e.free finder m apart det
      refine ⟨?_, ?_, free⟩
      · rw [e.other apart]; exact run
      · rw [e.other apart]; exact out

theorem LineEvent.bounds {n : LineNo} (e : LineEvent n s t) : KeepsBounds s t where
  base h := by
    have ctl := ctl_of_common e.common
    rwa [State.BaseAligned, ctl]
  bounded := fun ⟨lines, fetch⟩ => by
    refine ⟨fun m => ?_, by rwa [e.inFlight]⟩
    by_cases apart : m = n
    · subst apart
      exact e.bounded (lines m)
    · rw [e.other apart]
      exact lines m
  lock := by
    have lock : t.lockSet = s.lockSet := congrArg Common.lockSet e.common
    rw [lock, BitVec.and_self]

theorem LineEvent.coherent {n : LineNo} (e : LineEvent n s t)
    (live : s.LinesFit → (s.line n).status = .on ∨ (t.line n).Idle) : KeepsCoherent s t := fun coherent finder => by
  have fit := e.linesFit coherent.fit finder (live coherent.fit)
  have ctl := ctl_of_common e.common
  have scan : t.scan = s.scan := congrArg Common.scan e.common
  refine ⟨⟨fit.locked_rest, fit.off_idle, ?_, ?_, ?_⟩, e.finder finder⟩
  · rw [ctl]
    exact fun still m => e.status_eq m ▸ coherent.still_off still m
  · rw [ctl, scan]
    exact coherent.still_sweep
  · rw [ctl, e.inFlight]
    exact coherent.reads_fit

/-- An event of a line that is ON wherever the part is coherent, or that leaves the line idle. -/
theorem LineEvent.keeps {n : LineNo} (e : LineEvent n s t)
    (live : s.LinesFit → (s.line n).status = .on ∨ (t.line n).Idle) : StepKeeps s t := ⟨e.bounds, e.coherent live⟩

/-! ## Changes of the port, the scanner and the control registers -/

/-- Whatever is in flight was in flight, and was as stale. -/
def ReadsWithin (s t : State) : Prop := ∀ x, t.port.inFlight = some x →
  ∃ y, s.port.inFlight = some y ∧ y.job = x.job ∧ y.length = x.length ∧ (x.stale = false → y.stale = false)

theorem readsWithin_same (h : t.port.inFlight = s.port.inFlight) : ReadsWithin s t :=
  fun x inFlight => ⟨x, h ▸ inFlight, rfl, rfl, id⟩

theorem readsWithin_none (h : t.port.inFlight = none) : ReadsWithin s t :=
  fun _ inFlight => nomatch h.symm.trans inFlight

theorem readsWithin_makeStale (s : State) (p : Job → Bool) : ReadsWithin s (s.makeStale p) := fun x inFlight => by
  obtain ⟨y, was, rfl⟩ := Option.map_eq_some_iff.1 inFlight
  refine ⟨y, was, ?_⟩
  split
  · exact ⟨rfl, rfl, nofun⟩
  · exact ⟨rfl, rfl, id⟩

theorem ReadsWithin.trans (a : ReadsWithin s t) (b : ReadsWithin t u) : ReadsWithin s u := fun x inFlight =>
  have ⟨y, inFlight', job, length, stale⟩ := b x inFlight
  have ⟨z, inFlight'', job', length', stale'⟩ := a y inFlight'
  ⟨z, inFlight'', job'.trans job, length'.trans length, fun h => stale' (stale h)⟩

theorem ReadsWithin.short (w : ReadsWithin s t)
    (h : ∀ (x : Transaction) (n : LineNo), s.port.inFlight = some x → x.job = .fetch n → x.length ≤ 64) :
    ∀ (x : Transaction) (n : LineNo), t.port.inFlight = some x → x.job = .fetch n → x.length ≤ 64 :=
  fun x n inFlight job => by
    obtain ⟨y, was, job', length, -⟩ := w x inFlight
    exact length ▸ h y n was (job'.trans job)

theorem ReadsWithin.fits {p : PartState} (w : ReadsWithin s t)
    (h : ∀ x : Transaction, s.port.inFlight = some x → x.stale = false → x.job.FitsPart p) :
    ∀ x : Transaction, t.port.inFlight = some x → x.stale = false → x.job.FitsPart p := fun x inFlight fresh => by
  obtain ⟨y, was, job, -, stale⟩ := w x inFlight
  exact job ▸ h y was (stale fresh)

theorem bounded_congr (lines : t.lines = s.lines) (reads : ReadsWithin s t) (h : s.Bounded) : t.Bounded :=
  ⟨fun n => by rw [line_congr lines]; exact h.1 n, reads.short h.2⟩

theorem linesFit_congr (lines : t.lines = s.lines) (lock : t.lockSet = s.lockSet) (h : s.LinesFit) : t.LinesFit where
  locked_rest n locked := by
    rw [State.locked, lock] at locked
    rw [line_congr lines]
    exact h.locked_rest n locked
  off_idle n := by rw [line_congr lines]; exact h.off_idle n

theorem finder_of_lines (lines : t.lines = s.lines) (queue : t.queue = s.queue) (slots : t.slots = s.slots)
    (h : s.FinderCoherent) : t.FinderCoherent :=
  finderCoherent_congr h queue slots fun m => by rw [line_congr lines]

/-- An event that leaves the lines, the finder and the part state, and brings no read and no sweep. -/
theorem keeps_frame (lines : t.lines = s.lines) (queue : t.queue = s.queue) (slots : t.slots = s.slots)
    (lock : t.lockSet = s.lockSet) (base : s.BaseAligned → t.BaseAligned) (part : t.ctl.part = s.ctl.part)
    (sweep : s.ctl.part ≠ .running → s.scan.position = none → t.scan.position = none) (reads : ReadsWithin s t) :
    StepKeeps s t where
  bounds := ⟨base, bounded_congr lines reads, by rw [lock, BitVec.and_self]⟩
  coherent coherent finder := by
    have fit := linesFit_congr lines lock coherent.fit
    refine ⟨⟨fit.locked_rest, fit.off_idle, ?_, ?_, ?_⟩, finder_of_lines lines queue slots finder⟩
    · rw [part]
      exact fun still n => by rw [line_congr lines]; exact coherent.still_off still n
    · rw [part]
      exact fun still => sweep still (coherent.still_sweep still)
    · rw [part]
      exact reads.fits coherent.reads_fit

theorem StepKeeps.refl (s : State) : StepKeeps s s :=
  keeps_frame rfl rfl rfl rfl id rfl (fun _ h => h) (readsWithin_same rfl)

theorem keeps_completed (s : State) : StepKeeps s s.completed :=
  keeps_frame rfl rfl rfl rfl id rfl (fun _ h => h) (readsWithin_none rfl)

theorem keeps_makeStale (s : State) (p : Job → Bool) : StepKeeps s (s.makeStale p) :=
  keeps_frame rfl rfl rfl rfl id rfl (fun _ h => h) (readsWithin_makeStale s p)

/-! ## The port's reaction -/

/-- What a client asks for fits the part state, and a fetch reads at most 64 bytes. -/
theorem jobOf_fits {c : Client} {j : Job} (still : s.ctl.part ≠ .running → s.scan.position = none)
    (h : s.jobOf c = some j) : j.FitsPart s.ctl.part := by
  cases c with
  | scanner =>
    have running : s.scan.position ≠ none → s.ctl.part = .running := fun busy => by
      by_contra stopped
      exact busy (still stopped)
    change s.scanJob = some j at h
    unfold State.scanJob at h
    split at h
    next starting => cases h; exact starting
    · split at h
      · cases h
      next position => cases h; exact running (by rw [position]; exact nofun)
      next position => cases h; exact running (by rw [position]; exact nofun)
  | capture => obtain ⟨n, -, rfl⟩ := Option.map_eq_some_iff.1 h; exact trivial
  | fetcher => obtain ⟨n, -, rfl⟩ := Option.map_eq_some_iff.1 h; exact trivial
  | report =>
    obtain ⟨r, -, rfl⟩ := Option.map_eq_some_iff.1 h
    cases r <;> exact trivial
  | loader => obtain ⟨l, -, rfl⟩ := Option.map_eq_some_iff.1 h; exact trivial

@[simp] theorem form_job (s : State) (j : Job) : (s.form j).job = j := by cases j <;> rfl

theorem form_short (s : State) {j : Job} {n : LineNo} (h : (s.form j).job = .fetch n) : (s.form j).length ≤ 64 := by
  rw [form_job] at h
  subst h
  exact (Nat.min_le_left ..).trans (Nat.min_le_left ..)

/-- What is in flight after the port's reaction was so before it, or has just been formed for a client that asked. -/
theorem settlePort_inFlight (s : State) : s.settlePort.port.inFlight = s.port.inFlight ∨
    ∃ c j, s.jobOf c = some j ∧ s.settlePort.port.inFlight = some (s.form j) := by
  have raised : ∀ t : State, t.raiseHold.port.inFlight = t.port.inFlight := fun t => by
    unfold State.raiseHold
    split
    · split <;> rfl
    · rfl
  unfold State.settlePort
  split
  · split
    · exact .inl (raised s.lowerHold)
    · split
      next j chosen =>
        obtain ⟨c, -, job⟩ := Option.bind_eq_some_iff.1 chosen
        exact .inr ⟨c, j, job, rfl⟩
      · exact .inl rfl
  · exact .inl (raised s)

theorem keeps_settlePort (s : State) : StepKeeps s s.settlePort := by
  have ⟨lines, _, queue, slots, common⟩ := settlePort_keeps s
  have ctl := ctl_of_common common
  have scan : s.settlePort.scan = s.scan := congrArg Common.scan common
  have lock : s.settlePort.lockSet = s.lockSet := congrArg Common.lockSet common
  refine ⟨⟨?_, fun ⟨bounds, short⟩ => ⟨fun n => ?_, ?_⟩, ?_⟩, fun coherent finder => ?_⟩
  · rw [State.BaseAligned, State.BaseAligned, ctl]
    exact id
  · rw [line_settlePort]
    exact bounds n
  · rcases settlePort_inFlight s with same | ⟨c, j, -, formed⟩
    · rwa [same]
    · rintro x n inFlight job
      cases formed.symm.trans inFlight
      exact form_short s job
  · rw [lock, BitVec.and_self]
  · have fit := linesFit_congr lines lock coherent.fit
    refine ⟨⟨fit.locked_rest, fit.off_idle, ?_, ?_, ?_⟩, finder_of_lines lines queue slots finder⟩
    · rw [ctl]
      exact fun still n => by rw [line_settlePort]; exact coherent.still_off still n
    · rw [ctl, scan]
      exact coherent.still_sweep
    · rw [ctl]
      rcases settlePort_inFlight s with same | ⟨c, j, asked, formed⟩
      · rw [same]
        exact coherent.reads_fit
      · rintro _ inFlight -
        cases formed.symm.trans inFlight
        rw [form_job]
        exact jobOf_fits coherent.still_sweep asked

end

end Sys2Proof.Machine
end

section
/-! SUPPORT. What the rows that are no event of one line keep of the invariants: lines going ON and OFF, the start, the
stop, faults, resets and the Time Base. -/

namespace Sys2Proof.Machine

section
variable {s t u : State}

/-! ## Updates of a line that change its status -/

theorem keepsBounds_line {n : LineNo} (common : t.common = s.common) (reads : ReadsWithin s t)
    (others : t.others n = s.others n) (bounded : s.Bounded → (t.line n).Bounded) : KeepsBounds s t where
  base h := by
    have ctl := ctl_of_common common
    rwa [State.BaseAligned, ctl]
  bounded h := by
    refine ⟨fun m => ?_, reads.short h.2⟩
    by_cases apart : m = n
    · subst apart
      exact bounded h
    · rw [← sameButDetection_of_others others apart]
      exact h.1 m
  lock := by
    have lock : t.lockSet = s.lockSet := congrArg Common.lockSet common
    rw [lock, BitVec.and_self]

theorem keepsBounds_modLine {n : LineNo} {f : Line → Line} (bounded : s.Bounded → (f (s.line n)).Bounded) :
    KeepsBounds s (s.modLine n f) :=
  keepsBounds_line (n := n) rfl (readsWithin_same rfl) (others_modLine s n f) (by rwa [line_modLine_self])

/-- What the coherence of the part asks of an update of line n that may change its status. -/
structure Restatus (s : State) (l k : Line) : Prop where
  det  : k.det.state = l.det.state
  out  : l.out.state = .rest → k.out.state = .rest
  idle : k.status ≠ .on → k.Idle
  on   : k.status = .on → s.ctl.part = .running

theorem linesFit_modLine {n : LineNo} {f : Line → Line} (fit : s.LinesFit)
    (out : (s.line n).out.state = .rest → (f (s.line n)).out.state = .rest)
    (idle : (f (s.line n)).status ≠ .on → (f (s.line n)).Idle) : (s.modLine n f).LinesFit where
  locked_rest m locked := by
    by_cases apart : m = n
    · subst apart
      rw [line_modLine_self]
      exact out (fit.locked_rest m locked)
    · rw [line_modLine_ne s f apart]
      exact fit.locked_rest m locked
  off_idle m off := by
    by_cases apart : m = n
    · subst apart
      rw [line_modLine_self] at off ⊢
      exact idle off
    · rw [line_modLine_ne s f apart] at off ⊢
      exact fit.off_idle m off

theorem finder_modLine {n : LineNo} {f : Line → Line} (det : (f (s.line n)).det.state = (s.line n).det.state)
    (finder : s.FinderCoherent) : (s.modLine n f).FinderCoherent :=
  finderCoherent_congr finder rfl rfl fun m => by
    by_cases apart : m = n
    · rw [apart, line_modLine_self, det]
    · rw [line_modLine_ne s f apart]

theorem keepsCoherent_modLine {n : LineNo} {f : Line → Line}
    (keeps : s.Coherent → Restatus s (s.line n) (f (s.line n))) : KeepsCoherent s (s.modLine n f) :=
  fun coherent finder => by
    have ⟨det, out, idle, on⟩ := keeps coherent
    have fit := linesFit_modLine coherent.fit out idle
    refine ⟨⟨fit.locked_rest, fit.off_idle, fun still m => ?_, coherent.still_sweep, coherent.reads_fit⟩,
      finder_modLine det finder⟩
    by_cases apart : m = n
    · subst apart
      rw [line_modLine_self]
      exact fun status => still (on status)
    · rw [line_modLine_ne s f apart]
      exact coherent.still_off still m

theorem live_modLine {n : LineNo} {f : Line → Line} (idle : (s.line n).Idle → (f (s.line n)).Idle) :
    s.LinesFit → (s.line n).status = .on ∨ ((s.modLine n f).line n).Idle := fun fit => by
  by_cases on : (s.line n).status = .on
  · exact .inl on
  · rw [line_modLine_self]
    exact .inr (idle (fit.off_idle n on))

theorem line_startDetection (s : State) (n : LineNo) (begun : Bool) :
    ∃ d, (s.startDetection n begun).line n = { s.line n with det := d } := by
  have granted := line_grantSlots_det (s.detecting n begun) n
  rw [line_detecting] at granted
  exact ⟨_, granted⟩

theorem restatus_goOff {l : Line} (s : State) (idle : l.Idle) : Restatus s l l.goOff := ⟨rfl, id, fun _ => idle, nofun⟩

theorem restatus_goOn {l : Line} (running : s.ctl.part = .running) (h : LineHost) (f : Format) :
    Restatus s l (l.goOn h f) := ⟨rfl, id, fun status => absurd rfl status, fun _ => running⟩

theorem det_goOn (l : Line) (h : LineHost) (f : Format) : (l.goOn h f).det = l.det := rfl

theorem bounded_goOff {l : Line} (h : l.Bounded) : l.goOff.Bounded :=
  have ⟨history, fifo, trail, _, dropped⟩ := h
  ⟨history, fifo, trail, Nat.zero_le _, dropped⟩

theorem bounded_goOn {l : Line} (h : LineHost) (f : Format) (bounded : l.Bounded) : (l.goOn h f).Bounded :=
  have ⟨_, _, trail, _, _⟩ := bounded
  ⟨Nat.zero_le _, Nat.zero_le _, trail, Nat.zero_le _, Nat.zero_le _⟩

theorem keeps_mark (s : State) (n : LineNo) : StepKeeps s (s.mark n) :=
  keeps_frame rfl rfl rfl rfl id rfl (fun _ h => h) (readsWithin_same rfl)

/-- A line ON goes OFF (R5). -/
theorem keeps_lineOff {n : LineNo} (on : (s.line n).status = .on) (kind : OutcomeKind) (exit : TrailExit) :
    StepKeeps s (s.lineOff n kind exit) := by
  have work := (event_offWork s n kind exit).keeps fun _ => .inl on
  have line := line_offWork s n kind exit
  rw [lineOff_eq]
  have stale := work.trans (keeps_makeStale _ fun j => j == .fetch n)
  have off : StepKeeps ((s.offWork n kind exit).makeStale fun j => j == .fetch n)
      (((s.offWork n kind exit).makeStale fun j => j == .fetch n).modLine n Line.goOff) := by
    refine ⟨keepsBounds_modLine fun h => bounded_goOff (h.1 n), keepsCoherent_modLine fun _ => restatus_goOff _ ?_⟩
    rw [line_makeStale, line]
    exact offWork_idle (s.line n) kind exit s.now _
  exact (stale.trans off).trans (keeps_mark _ n)

/-- A line goes ON while the part is RUNNING (R4). -/
theorem keepsCoherent_lineOn {n : LineNo} (h : LineHost) (f : Format) (off : (s.line n).status ≠ .on)
    (running : s.ctl.part = .running) : KeepsCoherent s (s.lineOn n h f) := fun coherent finder => by
  have idle := coherent.off_idle n off
  have enabled : KeepsCoherent s ((((s.makeStale fun j => j == .capture n)).modLine n fun l => l.goOn h f).mark n) :=
    ((keeps_makeStale s fun j => j == .capture n).coherent.trans (keepsCoherent_modLine fun _ =>
      restatus_goOn (s := s.makeStale fun j => j == .capture n) running h f)).trans (keeps_mark _ n).coherent
  have free : (((((s.makeStale fun j => j == .capture n)).modLine n fun l => l.goOn h f).mark n).line n).det.state
      = .none := by
    rw [line_mark, line_modLine_self, det_goOn, line_makeStale]
    exact idle.2.2
  unfold State.lineOn
  dsimp only
  split
  · refine (enabled.trans ((event_startDetection false free).coherent fun _ => .inl ?_)) coherent finder
    rw [line_mark, line_modLine_self]
    rfl
  · exact enabled coherent finder

theorem keepsBounds_lineOn (s : State) (n : LineNo) (h : LineHost) (f : Format) : KeepsBounds s (s.lineOn n h f) := by
  have reads : ∀ t : State, t.port.inFlight = (s.makeStale fun j => j == .capture n).port.inFlight → ReadsWithin s t :=
    fun t same => (readsWithin_makeStale s _).trans (readsWithin_same same)
  refine keepsBounds_line (common_lineOn ..) (reads _ ?_) (others_lineOn ..) fun bounds => ?_
  · unfold State.lineOn
    dsimp only
    split
    · rw [startDetection_eq, port_grantSlots]
      rfl
    · rfl
  · have enabled := bounded_goOn h f (bounds.1 n)
    unfold State.lineOn
    dsimp only
    split
    · obtain ⟨d, line⟩ := line_startDetection
        (((s.makeStale fun j => j == .capture n).modLine n fun l => l.goOn h f).mark n) n false
      rw [line, line_mark, line_modLine_self]
      exact enabled
    · rw [line_mark, line_modLine_self]
      exact enabled

/-- An update of a line that is not ON and stays so. -/
theorem keeps_offLine {n : LineNo} {f : Line → Line} (off : (s.line n).status ≠ .on) (off' : (f (s.line n)).status ≠ .on)
    (det : (f (s.line n)).det = (s.line n).det) (out : (f (s.line n)).out = (s.line n).out)
    (run : (f (s.line n)).run = (s.line n).run) (bounded : (s.line n).Bounded → (f (s.line n)).Bounded) :
    StepKeeps s (s.modLine n f) where
  bounds := keepsBounds_modLine fun h => bounded (h.1 n)
  coherent := keepsCoherent_modLine fun coherent => by
    refine ⟨by rw [det], by rw [out]; exact id, fun _ => ?_, fun on => absurd on off'⟩
    rw [Line.Idle, det, out, run]
    exact coherent.off_idle n off

theorem keeps_raise (s : State) (n : LineNo) (c : LineCause) : StepKeeps s (s.raise n c) :=
  keeps_frame rfl rfl rfl rfl id rfl (fun _ h => h) (readsWithin_same rfl)

theorem keeps_markIf (s : State) (n : LineNo) (b : Bool) : StepKeeps s (s.markIf n b) := by
  cases b
  · exact .refl s
  · exact keeps_mark s n

/-- The Enable of a record is applied: a line goes ON only while the part is RUNNING (R2 to R5). -/
theorem keeps_applyEnable (s : State) (n : LineNo) (h : LineHost) : KeepsBounds s (s.applyEnable n h) ∧
    (s.ctl.part = .running → KeepsCoherent s (s.applyEnable n h)) := by
  have both : ∀ {t : State}, StepKeeps s t → KeepsBounds s t ∧ (s.ctl.part = .running → KeepsCoherent s t) :=
    fun keeps => ⟨keeps.bounds, fun _ => keeps.coherent⟩
  have lineOn : ∀ f, (s.line n).status ≠ .on → KeepsBounds s (s.lineOn n h f) ∧
      (s.ctl.part = .running → KeepsCoherent s (s.lineOn n h f)) := fun f off =>
    ⟨keepsBounds_lineOn s n h f, keepsCoherent_lineOn h f off⟩
  unfold State.applyEnable
  split
  next on =>
    split
    · exact both (keeps_lineOff on _ _)
    · exact both (.refl s)
  next off =>
    have apart : (s.line n).status ≠ .on := by rw [off]; exact nofun
    split
    · exact both (.refl s)
    · split
      · exact lineOn _ apart
      · exact both ((keeps_offLine apart LineStatus.noConfusion rfl rfl rfl id).trans (keeps_raise _ n _))
  next bad =>
    have apart : (s.line n).status ≠ .on := by rw [bad]; exact nofun
    split
    · exact both ((keeps_offLine apart LineStatus.noConfusion rfl rfl rfl id).trans (keeps_mark _ n))
    · split
      · exact lineOn _ apart
      · exact both ((keeps_offLine apart apart rfl rfl rfl id).trans (keeps_markIf _ n _))

/-! ## The part state -/

/-- A change between two part states other than RUNNING. -/
theorem keeps_stillPart (lines : t.lines = s.lines) (queue : t.queue = s.queue) (slots : t.slots = s.slots)
    (lock : t.lockSet = s.lockSet) (base : t.ctl.base = s.ctl.base) (was : s.ctl.part ≠ .running)
    (position : t.scan.position = s.scan.position) (reads : ReadsWithin s t)
    (fits : s.Coherent → ∀ x : Transaction, t.port.inFlight = some x → x.stale = false → x.job.FitsPart t.ctl.part) :
    StepKeeps s t where
  bounds := ⟨by rw [State.BaseAligned, State.BaseAligned, base]; exact id, bounded_congr lines reads,
    by rw [lock, BitVec.and_self]⟩
  coherent coherent finder := by
    have fit := linesFit_congr lines lock coherent.fit
    refine ⟨⟨fit.locked_rest, fit.off_idle, fun _ n => ?_, fun _ => ?_, fits coherent⟩,
      finder_of_lines lines queue slots finder⟩
    · rw [line_congr lines]
      exact coherent.still_off was n
    · rw [position]
      exact coherent.still_sweep was

/-- Only a read of a sweep or of a start speaks of the part state, and a HALTED part has none. -/
theorem fitsPart_starting {j : Job} (h : j.FitsPart .halted) : j.FitsPart .starting :=
  match j, h with
  | .startHeader, _ => rfl
  | .capture _, _ | .fetch _, _ | .reportHeader, _ | .reportLine _, _ | .load _, _ => trivial

theorem keeps_runOne (s : State) : StepKeeps s s.runOne := by
  unfold State.runOne
  split
  next start =>
    obtain ⟨halted, -⟩ := start
    refine keeps_stillPart rfl rfl rfl rfl rfl (by rw [halted]; exact nofun) rfl (readsWithin_same rfl)
      fun coherent x inFlight fresh => fitsPart_starting ?_
    have fits := coherent.reads_fit x inFlight fresh
    rwa [halted] at fits
  · exact .refl s

/-- A Scanner read that staleScan has met is stale. -/
theorem fitsPart_staleScan {x : Transaction} (p : PartState) (h : s.staleScan.port.inFlight = some x)
    (fresh : x.stale = false) : x.job.FitsPart p := by
  obtain ⟨y, -, rfl⟩ := Option.map_eq_some_iff.1 h
  split at fresh
  · cases fresh
  next other =>
    rw [if_neg other]
    cases job : y.job <;> rw [job] at other <;> trivial

/-! ## The stop (R191) -/

/-- What the stop sequence keeps from line to line. -/
structure StopFits (s : State) : Prop where
  fit    : s.LinesFit
  finder : s.FinderCoherent

theorem LineEvent.stopFits {n : LineNo} (e : LineEvent n s t) (h : StopFits s)
    (live : (s.line n).status = .on ∨ (t.line n).Idle) : StopFits t :=
  ⟨e.linesFit h.fit h.finder live, e.finder h.finder⟩

theorem stopFits_congr (lines : t.lines = s.lines) (lock : t.lockSet = s.lockSet) (queue : t.queue = s.queue)
    (slots : t.slots = s.slots) (h : StopFits s) : StopFits t :=
  ⟨linesFit_congr lines lock h.fit, finder_of_lines lines queue slots h.finder⟩

theorem StopFits.mark (h : StopFits s) (n : LineNo) : StopFits (s.mark n) :=
  stopFits_congr (s := s) rfl rfl rfl rfl h

theorem StopFits.makeStale (h : StopFits s) (p : Job → Bool) : StopFits (s.makeStale p) :=
  stopFits_congr (s := s) rfl rfl rfl rfl h

theorem stopFits_lineOff {n : LineNo} (h : StopFits s) (on : (s.line n).status = .on) (kind : OutcomeKind)
    (exit : TrailExit) : StopFits (s.lineOff n kind exit) := by
  have work := (event_offWork s n kind exit).stopFits h (.inl on)
  have stale := work.makeStale fun j => j == .fetch n
  rw [lineOff_eq]
  have idle : (((s.offWork n kind exit).makeStale fun j => j == .fetch n).line n).Idle := by
    rw [line_makeStale, line_offWork]
    exact offWork_idle (s.line n) kind exit s.now _
  have off := restatus_goOff s idle
  exact StopFits.mark ⟨linesFit_modLine stale.fit off.out off.idle, finder_modLine off.det stale.finder⟩ n

theorem idle_keepFifo {n : LineNo} (k : Nat) (h : (s.line n).Idle) : ((s.keepFifo n k).line n).Idle := by
  rw [line_keepFifo]
  exact h

theorem stopFits_keepFifo {n : LineNo} (h : StopFits s) (off : (s.line n).status ≠ .on) (k : Nat) :
    StopFits (s.keepFifo n k) :=
  (event_keepFifo s n k).stopFits h (.inr (idle_keepFifo k (h.fit.off_idle n off)))

theorem stopFits_resettled {n : LineNo} (h : StopFits s) (off : (s.line n).status ≠ .on) (c : Prop) [Decidable c] :
    StopFits (if c then s.settleFifo n else s) ∧
      ((if c then s.settleFifo n else s).line n).status = (s.line n).status := by
  split
  · rw [settleFifo_eq]
    exact ⟨stopFits_keepFifo h off _, (event_keepFifo ..).status⟩
  · exact ⟨h, rfl⟩

/-- The state as a line of the stop sequence is OFF, before memory failure discards its FIFO. -/
def State.lineStopped (s : State) (n : LineNo) : State :=
  let resettled := if (s.line n).cap.draining && (s.line n).settings.captureMode == .hold then s.settleFifo n else s
  match (s.line n).status with
  | .on => s.lineOff n .stopped .endedByStop
  | .configBad => (resettled.modLine n fun l => { l with status := .off, refusal := .none }).mark n
  | .off => resettled

theorem stopLine_eq (s : State) (n : LineNo) : s.stopLine n =
    if (s.lineStopped n).port.flag then (s.lineStopped n).discardFifo n else s.lineStopped n := rfl

theorem lineStopped_fits {n : LineNo} (h : StopFits s) :
    StopFits (s.lineStopped n) ∧ ((s.lineStopped n).line n).status = .off := by
  unfold State.lineStopped
  dsimp only
  split
  next on =>
    refine ⟨stopFits_lineOff h on _ _, ?_⟩
    rw [line_lineOff]
    rfl
  next bad =>
    have off : (s.line n).status ≠ .on := by rw [bad]; exact nofun
    obtain ⟨fits, status⟩ := stopFits_resettled h off
      ((s.line n).cap.draining && (s.line n).settings.captureMode == .hold)
    have idle := fits.fit.off_idle n (by rw [status]; exact off)
    refine ⟨StopFits.mark ⟨linesFit_modLine fits.fit id fun _ => idle, finder_modLine rfl fits.finder⟩ n, ?_⟩
    · rw [line_mark, line_modLine_self]
  next off =>
    obtain ⟨fits, status⟩ := stopFits_resettled h (by rw [off]; exact nofun)
      ((s.line n).cap.draining && (s.line n).settings.captureMode == .hold)
    exact ⟨fits, status.trans off⟩

theorem stopLine_fits {n : LineNo} (h : StopFits s) :
    StopFits (s.stopLine n) ∧ ((s.stopLine n).line n).status = .off := by
  obtain ⟨fits, status⟩ := lineStopped_fits (n := n) h
  have off : ((s.lineStopped n).line n).status ≠ .on := by rw [status]; exact nofun
  rw [stopLine_eq]
  split
  · unfold State.discardFifo
    split
    · exact ⟨fits, status⟩
    · exact ⟨stopFits_keepFifo fits off 0, (event_keepFifo ..).status.trans status⟩
  · exact ⟨fits, status⟩

@[simp] theorem others_stopLine (s : State) (n : LineNo) : (s.stopLine n).others n = s.others n := by
  have resettled : ∀ c [Decidable c], (if c then s.settleFifo n else s).others n = s.others n := fun c _ => by
    split
    · exact others_settleFifo s n
    · rfl
  have stopped : (s.lineStopped n).others n = s.others n := by
    unfold State.lineStopped
    dsimp only
    split
    · exact others_lineOff ..
    · exact (others_mark ..).trans <| (others_modLine ..).trans (resettled ((s.line n).cap.draining && (s.line n).settings.captureMode == .hold))
    · exact resettled ((s.line n).cap.draining && (s.line n).settings.captureMode == .hold)
  rw [stopLine_eq]
  split
  · exact (others_discardFifo ..).trans stopped
  · exact stopped

theorem stopLine_other (s : State) {n m : LineNo} (apart : m ≠ n) :
    (s.stopLine n).line m = { s.line m with det := ((s.stopLine n).line m).det } :=
  (sameButDetection_of_others (others_stopLine s n) apart).symm

/-! ## Going through the lines -/

/-- What one line's turn establishes, and every other turn keeps, holds of each line once all have had their turn. -/
theorem forLines_each {f : LineNo → State → State} {P : State → Prop} {Q : LineNo → State → Prop} (init : P s)
    (turn : ∀ n t, P t → P (f n t) ∧ Q n (f n t)) (stays : ∀ n m t, m ≠ n → P t → Q n t → Q n (f m t)) :
    P (s.forLines f) ∧ ∀ n, Q n (s.forLines f) := by
  have go : ∀ (xs : List LineNo) (t : State), P t →
      P (xs.foldl (fun u n => f n u) t) ∧ ∀ n, n ∈ xs ∨ Q n t → Q n (xs.foldl (fun u n => f n u) t) := by
    intro xs
    induction xs with
    | nil => exact fun t h => ⟨h, fun n q => q.resolve_left (List.not_mem_nil)⟩
    | cons x xs ih =>
      intro t h
      obtain ⟨next, here⟩ := turn x t h
      obtain ⟨all, each⟩ := ih (f x t) next
      refine ⟨all, fun n q => each n ?_⟩
      by_cases e : n = x
      · exact .inr (e ▸ here)
      · rcases q with member | before
        · exact .inl ((List.mem_cons.1 member).resolve_left e)
        · exact .inr (stays n x t (fun h => e h.symm) h before)
  obtain ⟨all, each⟩ := go (List.finRange 32) s init
  exact ⟨all, fun n => each n (.inl (List.mem_finRange n))⟩

theorem stopLines_fits (h : StopFits s) : StopFits (s.forLines fun n t => t.stopLine n) ∧
    ∀ n, ((s.forLines fun n t => t.stopLine n).line n).status = .off :=
  forLines_each (P := StopFits) (Q := fun n t => (t.line n).status = .off) h (fun _ _ fits => stopLine_fits fits)
    fun n m t apart _ off => by rw [stopLine_other t (Ne.symm apart)]; exact off

end

end Sys2Proof.Machine
end

section
/-! SUPPORT. What the operations beside the lines keep of the invariants: the blocks and the Loader, the sweep, the
start, the stop, faults, resets and the Time Base; and what leaves a line that is not ON idle. -/

namespace Sys2Proof.Machine

section
variable {s t u : State}

/-! ## A line that is not ON stays idle -/

/-- If line n is not ON and idle, it stays idle. -/
def Dormant (n : LineNo) (s t : State) : Prop := (s.line n).status ≠ .on → (s.line n).Idle → (t.line n).Idle

theorem Dormant.refl (n : LineNo) (s : State) : Dormant n s s := fun _ idle => idle

theorem Dormant.of_on {n : LineNo} (on : (s.line n).status = .on) : Dormant n s t := fun off => absurd on off

theorem Dormant.of_busy {n : LineNo} (busy : ¬(s.line n).Idle) : Dormant n s t := fun _ idle => absurd idle busy

theorem Dormant.trans {n : LineNo} (a : Dormant n s t) (status : (t.line n).status = (s.line n).status)
    (b : Dormant n t u) : Dormant n s u := fun off idle => b (by rw [status]; exact off) (a off idle)

theorem Dormant.ite {n : LineNo} {c : Prop} [Decidable c] (yes : Dormant n s t) (no : Dormant n s u) :
    Dormant n s (if c then t else u) := by
  split
  · exact yes
  · exact no

theorem dormant_modLine {n : LineNo} {f : Line → Line} (h : (s.line n).Idle → (f (s.line n)).Idle) :
    Dormant n s (s.modLine n f) := fun _ idle => by
  rw [line_modLine_self]
  exact h idle

theorem LineEvent.keeps_dormant {n : LineNo} (e : LineEvent n s t) (dormant : Dormant n s t) : StepKeeps s t :=
  e.keeps fun fit => by
    by_cases on : (s.line n).status = .on
    · exact .inl on
    · exact .inr (dormant on (fit.off_idle n on))

theorem line_eq_dormant {n : LineNo} (same : t.line n = s.line n) : Dormant n s t := fun _ idle => same ▸ idle

theorem dormant_mark (s : State) (n m : LineNo) : Dormant n s (s.mark m) := line_eq_dormant (line_mark ..)
theorem dormant_markIf (s : State) (n m : LineNo) (b : Bool) : Dormant n s (s.markIf m b) :=
  line_eq_dormant (line_markIf ..)
theorem dormant_raise (s : State) (n m : LineNo) (c : LineCause) : Dormant n s (s.raise m c) :=
  line_eq_dormant (line_raise ..)

theorem actionEnded_of_idle {n : LineNo} (idle : (s.line n).run.state = .idle) (a : Action)
    (failed : Option FailureReason) : s.actionEnded n a failed = s := by
  have no : s.inAction n a = false := by
    unfold State.inAction
    dsimp only
    rw [idle]
    rfl
  unfold State.actionEnded
  rw [no]
  rfl

theorem startIfQueued_of_idle {n : LineNo} (idle : (s.line n).run.state = .idle) : s.startIfQueued n = s := by
  unfold State.startIfQueued
  rw [if_neg]
  rw [idle]
  exact fun ⟨queued, _⟩ => nomatch queued

theorem dormant_actionEnded (s : State) (n : LineNo) (a : Action) (failed : Option FailureReason) :
    Dormant n s (s.actionEnded n a failed) := fun _ idle => by
  rw [actionEnded_of_idle idle.1]
  exact idle

theorem dormant_startIfQueued (s : State) (n : LineNo) : Dormant n s (s.startIfQueued n) := fun _ idle => by
  rw [startIfQueued_of_idle idle.1]
  exact idle

theorem dormant_sendEnded (s : State) (n : LineNo) : Dormant n s (s.sendEnded n) :=
  .ite (dormant_actionEnded s n .send none) (.refl n s)

theorem event_sendEnded (s : State) (n : LineNo) : LineEvent n s (s.sendEnded n) := .gated (event_actionEnded ..)

theorem dormant_triggerOff (s : State) (n : LineNo) : Dormant n s (s.triggerOff n) := fun _ idle => by
  rw [line_triggerOff]
  exact idle

theorem dormant_keepFifo (s : State) (n : LineNo) (k : Nat) : Dormant n s (s.keepFifo n k) := fun _ idle =>
  idle_keepFifo k idle

theorem dormant_discardFifo (s : State) (n : LineNo) : Dormant n s (s.discardFifo n) :=
  .ite (.refl n s) (dormant_keepFifo s n 0)

theorem dormant_settleFifo (s : State) (n : LineNo) : Dormant n s (s.settleFifo n) := by
  rw [settleFifo_eq]
  exact dormant_keepFifo s n _

theorem line_raiseJudged (s : State) (n m : LineNo) (a b : Capture) : (s.raiseJudged n a b).line m = s.line m := by
  unfold State.raiseJudged
  rw [line_raiseIf, line_raiseIf]

theorem dormant_captureWritten (s : State) (n : LineNo) (k : Nat) : Dormant n s (s.captureWritten n k) := fun _ idle => by
  unfold State.captureWritten
  dsimp only
  rw [line_raiseJudged, line_raiseIf, line_mark, line_modCap_self]
  exact idle

theorem dormant_applyTaken (s : State) (n : LineNo) (taken : Word) : Dormant n s (s.applyTaken n taken) := fun _ idle => by
  unfold State.applyTaken
  dsimp only
  rw [line_raiseJudged, line_markIf, line_modCap_self]
  exact idle

/-! ## The requests of a line that is not ON -/

/-- What is done only to a line that is ON leaves any other idle. -/
theorem dormant_unlessOff {n : LineNo} (r : ReqResult) (p : State × ReqResult) :
    Dormant n s (if !s.isOn n then (s, r) else p).1 := fun off idle => by
  have no : s.isOn n = false := by
    rw [State.isOn, beq_eq_false_iff_ne]
    exact off
  rw [no]
  exact idle

theorem dormant_judgeStart (s : State) (n : LineNo) (block entry : Word) : Dormant n s (s.judgeStart n block entry).1 := by
  unfold State.judgeStart
  split
  · exact .refl n s
  · split
    · dsimp only
      split
      · exact .refl n s
      · split
        · exact .refl n s
        · exact dormant_unlessOff _ _
    · exact .refl n s

theorem dormant_judgeAbort (s : State) (n : LineNo) : Dormant n s (s.judgeAbort n).1 := fun _ idle => by
  unfold State.judgeAbort
  rw [if_pos idle.1]
  exact idle

theorem outputRefusal_off {n : LineNo} (off : (s.line n).status ≠ .on) : s.outputRefusal n = some .lineOff := by
  have no : s.isOn n = false := by
    rw [State.isOn, beq_eq_false_iff_ne]
    exact off
  unfold State.outputRefusal
  rw [no]
  rfl

theorem dormant_judgePulse (s : State) (n : LineNo) (width : Word) : Dormant n s (s.judgePulse n width).1 :=
  fun off idle => by
    unfold State.judgePulse
    rw [outputRefusal_off off]
    exact idle

theorem dormant_judgeDrive (s : State) (n : LineNo) (o : OutputState) : Dormant n s (s.judgeDrive n o).1 :=
  fun off idle => by
    unfold State.judgeDrive
    rw [outputRefusal_off off]
    exact idle

theorem dormant_judgeDisarm (s : State) (n : LineNo) : Dormant n s (s.judgeDisarm n).1 := by
  unfold State.judgeDisarm
  split
  · exact dormant_triggerOff s n
  · exact dormant_triggerOff s n
  · exact .refl n s

theorem dormant_judgeRequest (s : State) (n : LineNo) (h : LineHost) : Dormant n s (s.judgeRequest n h).1 := by
  unfold State.judgeRequest
  split
  · exact dormant_judgeStart s n _ _
  · exact dormant_unlessOff _ _
  · exact dormant_unlessOff _ _
  · exact dormant_judgeAbort s n
  · exact dormant_unlessOff _ _
  · exact dormant_judgePulse s n _
  · exact dormant_judgeDrive s n _
  · exact dormant_judgeDrive s n _
  · exact dormant_unlessOff _ _
  · exact dormant_unlessOff _ _
  · exact dormant_unlessOff _ _
  · exact dormant_judgeDisarm s n
  · exact dormant_triggerOff s n
  · exact .refl n s

theorem keeps_recordResult {n : LineNo} (tag : Word) {p : State × ReqResult} (event : LineEvent n s p.1)
    (dormant : Dormant n s p.1) : StepKeeps s (State.recordResult n tag p) :=
  (event_recordResult tag event).keeps_dormant <|
    dormant.trans event.status fun _ idle => by
      unfold State.recordResult
      rw [line_raise, line_modLine_self]
      exact idle

theorem keeps_examineSlot (s : State) (n : LineNo) (h : LineHost) : StepKeeps s (s.examineSlot n h) := by
  unfold State.examineSlot
  split
  · exact ((event_modLine ⟨rfl, rfl, fun _ h => h, id⟩ : LineEvent n s _).keeps_dormant (dormant_modLine id)).trans
      (keeps_mark _ n)
  · split
    · exact .refl s
    · exact keeps_recordResult h.tag (event_judgeRequest s n h) (dormant_judgeRequest s n h)

/-! ## The blocks, the Loader and the station slot -/

/-- An event that changes nothing the invariants speak of. -/
theorem keeps_beside (lines : t.lines = s.lines) (queue : t.queue = s.queue) (slots : t.slots = s.slots)
    (lock : t.lockSet = s.lockSet) (ctl : t.ctl = s.ctl) (position : t.scan.position = s.scan.position)
    (inFlight : t.port.inFlight = s.port.inFlight) : StepKeeps s t :=
  keeps_frame lines queue slots lock (by rw [State.BaseAligned, State.BaseAligned, ctl]; exact id) (by rw [ctl])
    (fun _ h => position.trans h) (readsWithin_same inFlight)

theorem keeps_markHeader (s : State) : StepKeeps s s.markHeader := keeps_beside rfl rfl rfl rfl rfl rfl rfl
theorem keeps_modBlock (s : State) (b : BlockNo) (f : Block → Block) : StepKeeps s (s.modBlock b f) :=
  keeps_beside rfl rfl rfl rfl rfl rfl rfl
theorem keeps_setStore (s : State) (st : Store) : StepKeeps s { s with store := st } :=
  keeps_beside rfl rfl rfl rfl rfl rfl rfl
theorem keeps_raiseStation (s : State) (c : StationCause) : StepKeeps s (s.raiseStation c) :=
  keeps_beside rfl rfl rfl rfl rfl rfl rfl
theorem keeps_recordLine (s : State) (n : LineNo) (c : BitVec 12) : StepKeeps s (s.recordLine n c) :=
  keeps_beside rfl rfl rfl rfl rfl rfl rfl
theorem keeps_recordStation (s : State) (c : BitVec 4) : StepKeeps s (s.recordStation c) :=
  keeps_beside rfl rfl rfl rfl rfl rfl rfl
theorem keeps_takeMasks (s : State) (h : HeaderHost) : StepKeeps s (s.takeMasks h) :=
  keeps_beside rfl rfl rfl rfl rfl rfl rfl

theorem keeps_concludeLoad (s : State) (l : Loader) (r : LoadResult) (i : Nat) : StepKeeps s (s.concludeLoad l r i) :=
  ((keeps_modBlock s _ _).trans (keeps_setStore _ _)).trans (keeps_raiseStation _ _)

theorem keeps_endLoad (s : State) (r : LoadResult) : StepKeeps s (s.endLoad r) := by
  unfold State.endLoad
  split
  · exact .refl s
  · exact keeps_concludeLoad ..

theorem inFlight_endLoad (s : State) (r : LoadResult) : (s.endLoad r).port.inFlight = s.port.inFlight := by
  unfold State.endLoad
  split <;> rfl

theorem keeps_loadBytes (s : State) (l : Loader) (bytes : List Byte) : StepKeeps s (s.loadBytes l bytes) := by
  unfold State.loadBytes
  dsimp only
  split
  · exact ((keeps_modBlock s _ _).trans (keeps_setStore _ _)).trans (keeps_concludeLoad _ _ _ _)
  · exact (keeps_modBlock s _ _).trans (keeps_setStore _ _)

theorem keeps_acceptLoad (s : State) (b : BlockNo) (source : Word) : StepKeeps s (s.acceptLoad b source) :=
  ((keeps_modBlock s _ _).trans (keeps_setStore _ _)).trans (keeps_markHeader _)

theorem keeps_judgeLoad (s : State) (block source : Word) : StepKeeps s (s.judgeLoad block source).1 := by
  unfold State.judgeLoad
  split
  · exact keeps_acceptLoad ..
  · exact .refl s

theorem keeps_judgeUnload (s : State) (block : Word) : StepKeeps s (s.judgeUnload block).1 := by
  unfold State.judgeUnload
  split
  · exact (keeps_modBlock s _ _).trans (keeps_markHeader _)
  · exact .refl s

theorem keeps_judgeStationRequest (s : State) (h : HeaderHost) : StepKeeps s (s.judgeStationRequest h).1 := by
  unfold State.judgeStationRequest
  split
  · exact keeps_judgeLoad ..
  · exact keeps_judgeUnload ..
  · exact .refl s

/-- A change of the scanner's registers that leaves Sweep Position. -/
theorem keeps_setScan (s : State) (sc : Scanner) (position : sc.position = s.scan.position) :
    StepKeeps s { s with scan := sc } := keeps_beside rfl rfl rfl rfl rfl position rfl

theorem keeps_recordStationResult (tag : Word) {p : State × StationResult} (judged : StepKeeps s p.1) :
    StepKeeps s (State.recordStationResult tag p) :=
  (judged.trans (keeps_setScan _ _ (by rfl))).trans (keeps_raiseStation _ _)

theorem keeps_examineStation (s : State) (h : HeaderHost) : StepKeeps s (s.examineStation h) := by
  unfold State.examineStation
  split
  · exact (keeps_setScan _ _ (by rfl)).trans (keeps_markHeader _)
  · split
    · exact .refl s
    · split
      · exact .refl s
      · exact keeps_recordStationResult h.tag (keeps_judgeStationRequest s h)

/-! ## The sweep -/

theorem keeps_startSweep (s : State) : StepKeeps s s.startSweep := by
  unfold State.startSweep
  split
  next may =>
    have running : s.ctl.part = .running := by
      simp only [State.sweepMayStart, Bool.and_eq_true, beq_iff_eq] at may
      exact may.1.2
    exact keeps_frame rfl rfl rfl rfl id rfl (fun still => absurd running still) (readsWithin_same rfl)
  · exact .refl s

theorem keeps_askSweep (s : State) : StepKeeps s s.askSweep := by
  unfold State.askSweep
  split
  · exact .refl s
  · exact (keeps_setScan s _ (by rfl)).trans (keeps_startSweep _)

theorem keeps_endSweep (s : State) : StepKeeps s s.endSweep := by
  have stopped : StepKeeps s { s with scan := { s.scan with position := none, lastTime := s.now } } :=
    keeps_frame rfl rfl rfl rfl id rfl (fun _ _ => rfl) (readsWithin_same rfl)
  exact (stopped.trans (keeps_markHeader _)).trans (keeps_startSweep _)

/-- Sweep Position takes a value while the part is RUNNING. -/
theorem keeps_setPosition (s : State) (p : Option Record) :
    KeepsBounds s { s with scan := { s.scan with position := p } } ∧
      (s.ctl.part = .running → KeepsCoherent s { s with scan := { s.scan with position := p } }) := by
  refine ⟨⟨id, bounded_congr rfl (readsWithin_same rfl), BitVec.and_self⟩, fun running => ?_⟩
  have keeps : StepKeeps s { s with scan := { s.scan with position := p } } :=
    keeps_frame rfl rfl rfl rfl id rfl (fun still => absurd running still) (readsWithin_same rfl)
  exact keeps.coherent

theorem keeps_sweepOn (s : State) (n : LineNo) : KeepsBounds s (s.sweepOn n) ∧
    (s.ctl.part = .running → KeepsCoherent s (s.sweepOn n)) := by
  have ended := keeps_endSweep s
  unfold State.sweepOn
  split
  · split
    · exact keeps_setPosition s _
    · exact ⟨ended.bounds, fun _ => ended.coherent⟩
  · exact ⟨ended.bounds, fun _ => ended.coherent⟩

theorem keeps_actOnHeader (s : State) (h : HeaderHost) : StepKeeps s (s.actOnHeader h) := by
  have set : StepKeeps s { s with scan := { s.scan with interval := clamp 1 1000 h.interval.toNat } } :=
    keeps_setScan s _ rfl
  have shown : StepKeeps s (if clamp 1 1000 h.interval.toNat = s.scan.interval then
      { s with scan := { s.scan with interval := clamp 1 1000 h.interval.toNat } }
      else ({ s with scan := { s.scan with interval := clamp 1 1000 h.interval.toNat } } : State).markHeader) := by
    split
    · exact set
    · exact set.trans (keeps_markHeader _)
  exact (shown.trans (keeps_takeMasks _ h)).trans (keeps_examineStation _ h)

/-- A line's record is acted on while the part is RUNNING (R143). -/
theorem keeps_actOnLine (s : State) (n : LineNo) (h : LineHost) : KeepsBounds s (s.actOnLine n h) ∧
    (s.ctl.part = .running → KeepsCoherent s (s.actOnLine n h)) := by
  have ⟨bounds, coherent⟩ := keeps_applyEnable s n h
  have taken : ∀ t : State, StepKeeps t (if (t.line n).captures then t.applyTaken n h.taken else t) := fun t => by
    split
    · exact (event_applyTaken t n h.taken).keeps_dormant (dormant_applyTaken t n h.taken)
    · exact .refl t
  have fill : ∀ t : State, StepKeeps t (t.applyFill n h.fill) := fun t =>
    (event_applyFill t n h.fill).keeps_dormant fun off idle => by
      unfold State.applyFill
      dsimp only
      rw [if_neg off]
      exact idle
  have claimed : ∀ (t : State) (b wentOn : Bool), StepKeeps t (t.applyClaim n b wentOn) := fun t b wentOn =>
    (event_applyClaim t n b wentOn).keeps_dormant fun off idle => by
      unfold State.applyClaim
      dsimp only
      rw [if_neg fun (on : (t.line n).status = .on ∧ _) => off on.1, line_markIf, line_modLine_self]
      exact idle
  have rest : ∀ (t : State) (wentOn : Bool), StepKeeps t
      ((((if (t.line n).captures then t.applyTaken n h.taken else t).applyFill n h.fill).applyClaim n (h.claim != 0)
        wentOn).examineSlot n h) := fun t wentOn =>
    (((taken t).trans (fill _)).trans (claimed _ _ wentOn)).trans (keeps_examineSlot _ n h)
  have after := rest (s.applyEnable n h) (!s.isOn n && (s.applyEnable n h).isOn n)
  exact ⟨bounds.trans after.bounds, fun running => (coherent running).trans after.coherent⟩

end

end Sys2Proof.Machine
end

section
/-! SUPPORT. What the start, the stop, faults, resets and the Time Base keep of the invariants. -/

namespace Sys2Proof.Machine

section
variable {s t u : State}

/-! ## The start (R187) -/

/-- The state as the header read of a start takes effect, before its masks and its first sweep. -/
def State.started (s : State) (h : HeaderHost) : State :=
  let lines := clamp 1 32 h.linesInUse.toNat
  let interval := clamp 1 1000 h.interval.toNat
  { s with
    linesInUse := lines
    reports := s.reports.latch lines
    lockSet := s.lockSet ||| h.lock
    scan := { s.scan with interval := interval, timer := timerStart interval, pending := true, position := none }
    ctl := { s.ctl with part := .running, windUp := false } }

theorem actOnStart_eq (s : State) (h : HeaderHost) :
    s.actOnStart h = ((s.started h).takeMasks h).markHeader.startSweep := rfl

theorem and_or_self (a b : Word) : a &&& (a ||| b) = a := by
  ext i
  simpa using fun h => Or.inl h

theorem keepsBounds_started (s : State) (h : HeaderHost) : KeepsBounds s (s.started h) :=
  ⟨id, bounded_congr rfl (readsWithin_same rfl), and_or_self ..⟩

/-- Outside RUNNING every line is idle, whatever the Lock Set. -/
theorem State.Coherent.all_idle (h : s.Coherent) (still : s.ctl.part ≠ .running) (n : LineNo) : (s.line n).Idle :=
  h.off_idle n (h.still_off still n)

theorem keepsCoherent_started (still : s.ctl.part ≠ .running) (none : s.port.inFlight = none) (h : HeaderHost) :
    KeepsCoherent s (s.started h) := fun coherent finder =>
  ⟨⟨fun n _ => (coherent.all_idle still n).2.1, coherent.off_idle, fun stopped => absurd rfl stopped, fun _ => rfl,
    fun _ inFlight => nomatch none.symm.trans inFlight⟩, finder_of_lines (s := s) rfl rfl rfl finder⟩

theorem keeps_afterStarted (s : State) (h : HeaderHost) :
    StepKeeps s (s.takeMasks h).markHeader.startSweep :=
  ((keeps_takeMasks s h).trans (keeps_markHeader _)).trans (keeps_startSweep _)

/-! ## Faults (R179 to R182) -/

theorem keeps_returnCarried (s : State) : StepKeeps s s.returnCarried := by
  unfold State.returnCarried
  split
  · split
    · exact keeps_beside rfl rfl rfl rfl rfl rfl rfl
    · exact keeps_beside rfl rfl rfl rfl rfl rfl rfl
    · exact .refl s
  · exact .refl s

theorem keeps_discardFifos (s : State) : StepKeeps s (s.forLines fun n t => t.discardFifo n) ∧
    (s.forLines fun n t => t.discardFifo n).port.inFlight = s.port.inFlight :=
  (forLines_each (P := fun t => StepKeeps s t ∧ t.port.inFlight = s.port.inFlight) (Q := fun _ _ => True)
    ⟨.refl s, rfl⟩ (fun n t ⟨keeps, inFlight⟩ =>
      have e := event_discardFifo t n
      ⟨⟨keeps.trans (e.keeps_dormant (dormant_discardFifo t n)), e.inFlight.trans inFlight⟩, trivial⟩)
    fun _ _ _ _ _ _ => trivial).1

theorem onFault_part (c : Control) : c.onFault.part = c.part ∨ (c.part ≠ .running ∧ c.onFault.part ≠ .running) := by
  unfold Control.onFault
  split
  next starting => exact .inr ⟨by rw [starting]; exact nofun, nofun⟩
  next stopping =>
    split
    · exact .inr ⟨by rw [stopping]; exact nofun, nofun⟩
    · exact .inl rfl
  · exact .inl rfl

theorem onFault_base (c : Control) : c.onFault.base = c.base := by
  unfold Control.onFault
  split
  · rfl
  · split <;> rfl
  · rfl

theorem keeps_onFault (none : s.port.inFlight = none) : StepKeeps s { s with ctl := s.ctl.onFault } := by
  have base : ({ s with ctl := s.ctl.onFault } : State).ctl.base = s.ctl.base := onFault_base s.ctl
  rcases onFault_part s.ctl with same | ⟨was, -⟩
  · exact keeps_frame rfl rfl rfl rfl (by rw [State.BaseAligned, State.BaseAligned, base]; exact id) same
      (fun _ h => h) (readsWithin_none none)
  · exact keeps_stillPart rfl rfl rfl rfl base was rfl (readsWithin_none none)
      fun _ x inFlight => nomatch none.symm.trans inFlight

theorem keeps_recordFault (s : State) (kind : FaultKind) (client : Option Client) (addr : Word) :
    StepKeeps s (s.recordFault kind client addr) := by
  have returned := keeps_returnCarried s
  unfold State.recordFault
  generalize s.returnCarried = r at returned
  dsimp only
  have cut : StepKeeps r { r with
      port := { r.port with
        flag := true, faultKind := kind, faultClient := client, faultAddr := addr, bus := .idle, inFlight := none }
      scan := { r.scan with position := none } } :=
    keeps_frame rfl rfl rfl rfl id rfl (fun _ _ => rfl) (readsWithin_none rfl)
  have none := inFlight_endLoad { r with
      port := { r.port with
        flag := true, faultKind := kind, faultClient := client, faultAddr := addr, bus := .idle, inFlight := none }
      scan := { r.scan with position := none } } .memoryFault
  have ended := (returned.trans cut).trans (keeps_endLoad _ .memoryFault)
  generalize State.endLoad _ LoadResult.memoryFault = e at none ended
  have discarded : StepKeeps e (if e.ctl.part = .stopping then e.forLines fun n t => t.discardFifo n else e) ∧
      (if e.ctl.part = .stopping then e.forLines fun n t => t.discardFifo n else e).port.inFlight = e.port.inFlight := by
    split
    · exact keeps_discardFifos e
    · exact ⟨.refl e, rfl⟩
  exact ((ended.trans discarded.1).trans (keeps_onFault (discarded.2.trans none))).trans (keeps_recordStation _ _)

theorem keeps_clearFault (s : State) : StepKeeps s s.clearFault :=
  keeps_beside rfl rfl rfl rfl rfl rfl rfl

/-! ## The stop (R191) -/

theorem readsWithin_stale {p : Job → Bool} (h : t.port.inFlight = (s.makeStale p).port.inFlight) : ReadsWithin s t :=
  (readsWithin_makeStale s p).trans (readsWithin_same h)

theorem keepsBounds_lineStopped (s : State) (n : LineNo) : KeepsBounds s (s.lineStopped n) := by
  have settled : ∀ c [Decidable c], KeepsBounds s (if c then s.settleFifo n else s) := fun c _ => by
    split
    · exact (event_settleFifo s n).bounds
    · exact (StepKeeps.refl s).bounds
  unfold State.lineStopped
  dsimp only
  split
  next on => exact (keeps_lineOff on _ _).bounds
  · exact ((settled _).trans (keepsBounds_modLine fun h => h.1 n)).trans (keeps_mark _ n).bounds
  · exact settled _

theorem keepsBounds_stopLine (s : State) (n : LineNo) : KeepsBounds s (s.stopLine n) := by
  rw [stopLine_eq]
  split
  · exact (keepsBounds_lineStopped s n).trans (event_discardFifo ..).bounds
  · exact keepsBounds_lineStopped s n

theorem readsWithin_lineOff (s : State) (n : LineNo) (kind : OutcomeKind) (exit : TrailExit) :
    ReadsWithin s (s.lineOff n kind exit) := by
  have work := readsWithin_same (event_offWork s n kind exit).inFlight
  rw [lineOff_eq]
  generalize s.offWork n kind exit = w at work
  exact work.trans (readsWithin_stale (p := fun j => j == .fetch n) rfl)

theorem readsWithin_stopLine (s : State) (n : LineNo) : ReadsWithin s (s.stopLine n) := by
  have settled : ∀ c [Decidable c], (if c then s.settleFifo n else s).port.inFlight = s.port.inFlight := fun c _ => by
    split
    · exact (event_settleFifo s n).inFlight
    · rfl
  have stopped : ReadsWithin s (s.lineStopped n) := by
    unfold State.lineStopped
    dsimp only
    split
    · exact readsWithin_lineOff s n _ _
    · exact readsWithin_same (settled _)
    · exact readsWithin_same (settled _)
  rw [stopLine_eq]
  split
  · exact stopped.trans (readsWithin_same (event_discardFifo ..).inFlight)
  · exact stopped

theorem ReadsWithin.refl (s : State) : ReadsWithin s s := readsWithin_same rfl

theorem stopLines_reads (s : State) : KeepsBounds s (s.forLines fun n t => t.stopLine n) ∧
    ReadsWithin s (s.forLines fun n t => t.stopLine n) :=
  (forLines_each (P := fun t => KeepsBounds s t ∧ ReadsWithin s t) (Q := fun _ _ => True)
    ⟨(StepKeeps.refl s).bounds, .refl s⟩ (fun n t ⟨bounds, reads⟩ =>
      ⟨⟨bounds.trans (keepsBounds_stopLine t n), reads.trans (readsWithin_stopLine t n)⟩, trivial⟩)
    fun _ _ _ _ _ _ => trivial).1

/-- The state as the stop sequence turns to the lines. -/
def State.stopping (s : State) : State :=
  ({ s with
    ctl := { s.ctl with part := .stopping, windUp := false }
    scan := { s.scan with timer := none, pending := false, position := none } } : State).staleScan

/-- The state as the stop sequence has gone through the lines. -/
def State.linesStopped (s : State) : State := s.stopping.forLines fun n t => t.stopLine n

theorem beginStop_eq (s : State) : s.beginStop =
    ((s.linesStopped.makeStale fun j => j.client == .loader).endLoad .cancelled).markHeader := rfl

theorem scan_of_common (same : t.common = s.common) : t.scan = s.scan := congrArg Common.scan same

theorem common_linesStopped (s : State) : s.linesStopped.common = s.stopping.common :=
  common_forLines _ fun n t => common_stopLine t n

theorem keepsBounds_linesStopped (s : State) : KeepsBounds s s.linesStopped := by
  have begun : KeepsBounds s s.stopping :=
    ⟨id, bounded_congr rfl (readsWithin_stale (p := fun j => j.client == .scanner) rfl), BitVec.and_self⟩
  exact begun.trans (stopLines_reads _).1

theorem keepsCoherent_linesStopped (s : State) : KeepsCoherent s s.linesStopped := fun coherent finder => by
  have begun : StopFits s.stopping := stopFits_congr (s := s) rfl rfl rfl rfl ⟨coherent.fit, finder⟩
  have stopped := stopLines_fits begun
  have reads := (stopLines_reads s.stopping).2
  change StopFits s.linesStopped ∧ ∀ n, (s.linesStopped.line n).status = .off at stopped
  change ReadsWithin s.stopping s.linesStopped at reads
  obtain ⟨fits, off⟩ := stopped
  have scan : s.linesStopped.scan = s.stopping.scan := scan_of_common (common_linesStopped s)
  refine ⟨⟨fits.fit.locked_rest, fits.fit.off_idle, fun _ n => ?_, fun _ => ?_, ?_⟩, fits.finder⟩
  · rw [off n]
    exact nofun
  · rw [scan]
    rfl
  · exact reads.fits fun x inFlight fresh => fitsPart_staleScan _ inFlight fresh

theorem keeps_beginStop (s : State) : StepKeeps s s.beginStop := by
  rw [beginStop_eq]
  exact ((StepKeeps.trans ⟨keepsBounds_linesStopped s, keepsCoherent_linesStopped s⟩ (keeps_makeStale _ _)).trans
    (keeps_endLoad _ _)).trans (keeps_markHeader _)

theorem keeps_runZero (s : State) : StepKeeps s s.runZero := by
  unfold State.runZero
  split
  next starting =>
    exact keeps_stillPart rfl rfl rfl rfl rfl (by rw [starting]; exact nofun) rfl
      (readsWithin_stale (p := fun j => j.client == .scanner) rfl)
      fun _ x inFlight fresh => fitsPart_staleScan _ inFlight fresh
  · exact keeps_beginStop s
  · exact .refl s

theorem keeps_controlWrite (s : State) (run intEnable sweepNow : Bool) :
    StepKeeps s (s.controlWrite run intEnable sweepNow) := by
  have enabled : StepKeeps s { s with ctl := { s.ctl with intEnable := intEnable } } :=
    keeps_frame rfl rfl rfl rfl id rfl (fun _ h => h) (readsWithin_same rfl)
  have ran : ∀ t : State, StepKeeps t (if run then t.runOne else t.runZero) := fun t => by
    split
    · exact keeps_runOne t
    · exact keeps_runZero t
  have swept : ∀ t : State, StepKeeps t (if sweepNow = true ∧ t.ctl.part = .running then t.askSweep else t) := fun t => by
    split
    · exact keeps_askSweep t
    · exact .refl t
  exact (enabled.trans (ran _)).trans (swept _)

/-- A read that belongs to a STOPPING part belongs to a HALTED one: neither has any of the Scanner's. -/
theorem fitsPart_halted {j : Job} (h : j.FitsPart .stopping) : j.FitsPart .halted :=
  match j, h with
  | .capture _, _ | .fetch _, _ | .reportHeader, _ | .reportLine _, _ | .load _, _ => trivial

/-! ## Resets (R193) -/

/-- What every invariant asks at a reset. -/
structure State.AtReset (s : State) : Prop where
  lines    : ∀ n : LineNo, ∃ level, s.line n = { Line.reset with rxd := level }
  queue    : s.queue = []
  slots    : s.slots = []
  position : s.scan.position = none
  inFlight : s.port.inFlight = none
  ctl      : s.ctl.base = 0 ∧ s.ctl.part = .halted

theorem State.AtReset.line (h : s.AtReset) (n : LineNo) :
    (s.line n).Idle ∧ (s.line n).Bounded ∧ (s.line n).status = .off := by
  obtain ⟨level, line⟩ := h.lines n
  rw [line]
  exact ⟨⟨rfl, rfl, rfl⟩, ⟨Nat.zero_le _, Nat.zero_le _, Nat.zero_le _, Nat.zero_le _, Nat.zero_le _⟩, rfl⟩

theorem State.AtReset.bounded (h : s.AtReset) : s.Bounded :=
  ⟨fun n => (h.line n).2.1, fun _ _ inFlight => nomatch h.inFlight.symm.trans inFlight⟩

theorem State.AtReset.base (h : s.AtReset) : s.BaseAligned := by
  rw [State.BaseAligned, h.ctl.1]
  rfl

theorem State.AtReset.coherent (h : s.AtReset) : s.Coherent where
  locked_rest n _ := (h.line n).1.2.1
  off_idle n _ := (h.line n).1
  still_off _ n := by
    rw [(h.line n).2.2]
    exact nofun
  still_sweep _ := h.position
  reads_fit _ inFlight := nomatch h.inFlight.symm.trans inFlight

theorem State.AtReset.finder (h : s.AtReset) : s.FinderCoherent where
  queued n := by
    rw [h.queue, (h.line n).1.2.2]
    exact ⟨nofun, nofun⟩
  measuring n := by
    rw [h.slots, (h.line n).1.2.2]
    exact ⟨nofun, nofun⟩
  queue_once := by
    rw [h.queue]
    exact List.nodup_nil
  slots_once := by
    rw [h.slots]
    exact List.nodup_nil
  four_slots := by
    rw [h.slots]
    exact Nat.zero_le 4
  served := .inl h.queue

theorem reset_atReset : State.reset.AtReset :=
  ⟨fun n => ⟨true, Vector.getElem_replicate n.isLt⟩, rfl, rfl, rfl, rfl, rfl, rfl⟩

theorem line_resetTo (s : State) (lock : Word) (low : Bool) (n : LineNo) :
    (s.resetTo lock low).line n = (s.line n).afterReset := Vector.getElem_map ..

theorem resetTo_atReset (s : State) (lock : Word) (low : Bool) : (s.resetTo lock low).AtReset :=
  ⟨fun n => ⟨(s.line n).rxd, line_resetTo ..⟩, rfl, rfl, rfl, rfl, rfl, rfl⟩

theorem keeps_softReset (s : State) : StepKeeps s (s.resetTo s.lockSet false) :=
  have reset := resetTo_atReset s s.lockSet false
  ⟨⟨fun _ => reset.base, fun _ => reset.bounded, BitVec.and_self⟩, fun _ _ => ⟨reset.coherent, reset.finder⟩⟩

/-! ## The Time Base (R159) -/

theorem line_advance (s : State) (n : LineNo) : s.advance.line n = (s.line n).tick := Vector.getElem_map ..

theorem tick_run_state (r : Runner) : r.tick.state = r.state ∧ r.tick.trail = r.trail := by
  unfold Runner.tick
  split <;> exact ⟨rfl, rfl⟩

theorem tick_idle {l : Line} (h : l.Idle) : l.tick.Idle :=
  ⟨(tick_run_state l.run).1.trans h.1, h.2.1, h.2.2⟩

theorem tick_bounded {l : Line} (h : l.Bounded) : l.tick.Bounded :=
  have ⟨history, fifo, trail, staging, dropped⟩ := h
  ⟨history, fifo, (congrArg List.length (tick_run_state l.run).2).trans_le trail, staging, dropped⟩

theorem keeps_advance (s : State) : StepKeeps s s.advance where
  bounds := ⟨id, fun h => ⟨fun n => by rw [line_advance]; exact tick_bounded (h.1 n), h.2⟩, BitVec.and_self⟩
  coherent coherent finder := by
    refine ⟨⟨fun n locked => ?_, fun n off => ?_, fun still n => ?_, coherent.still_sweep, coherent.reads_fit⟩,
      finderCoherent_congr finder rfl rfl fun n => by rw [line_advance]; rfl⟩
    · rw [line_advance]
      exact coherent.locked_rest n locked
    · rw [line_advance] at off ⊢
      exact tick_idle (coherent.off_idle n off)
    · rw [line_advance]
      exact coherent.still_off still n

end

end Sys2Proof.Machine
end

section
/-! SUPPORT. What every row keeps of the invariants, and the obligations that speak of every step. -/

namespace Sys2Proof.Machine

/-- An outcome that keeps the invariants. -/
def RowKeeps (s : State) (o : Host.Outcome State Fault Refusal) : Prop := ∀ t, o = .next t → StepKeeps s t

section
variable {s t u : State} {n : LineNo}

theorem rowKeeps_next (keeps : StepKeeps s u) : RowKeeps s (.next u) := by
  rintro t ⟨⟩
  exact keeps

theorem rowKeeps_idle (s : State) : RowKeeps s (.next s) := rowKeeps_next (.refl s)

theorem rowKeeps_finish (keeps : StepKeeps s u) : RowKeeps s u.finish :=
  rowKeeps_next (keeps.trans (keeps_settlePort u))

/-- A row with a condition, which its effect may use. -/
theorem rowKeeps_if {c : Prop} [Decidable c] {o : Host.Outcome State Fault Refusal} (keeps : c → RowKeeps s o) :
    RowKeeps s (if c then o else .next s) := by
  split
  next h => exact keeps h
  · exact rowKeeps_idle s

/-! ## The rows of a console line -/

/-- An event of a line that is ON. -/
theorem LineEvent.keeps_on (e : LineEvent n s t) (on : (s.line n).status = .on) : StepKeeps s t :=
  e.keeps fun _ => .inl on

/-- An event of a line at work, which is ON wherever the part is coherent. -/
theorem LineEvent.keeps_busy (e : LineEvent n s t) (busy : ¬(s.line n).Idle) : StepKeeps s t :=
  e.keeps_dormant (.of_busy busy)

/-- An update of a line that leaves its runner's state. -/
theorem keeps_lineUpdate {f : Line → Line} (keeps : ∀ locked, LineKeeps locked (s.line n) (f (s.line n)))
    (run : (f (s.line n)).run.state = (s.line n).run.state) : StepKeeps s (s.modLine n f) :=
  (event_modLine (keeps _)).keeps_dormant (dormant_modLine fun ⟨idle, rest, free⟩ =>
    ⟨run.trans idle, (keeps true).rest rfl rest, (keeps true).det.trans free⟩)

theorem afterBreak_run (l : Line) : l.afterBreak.run = l.run := by
  unfold Line.afterBreak
  split <;> rfl

theorem clearHold_run (l : Line) : l.clearHold.run = l.run := by
  unfold Line.clearHold
  split <;> rfl

theorem afterChar_run (l : Line) (c : TxChar) : (l.afterChar c).run = l.run := by
  unfold Line.afterChar
  split
  · rfl
  · split
    · rfl
    · split <;> rfl

theorem countChar_run (l : Line) (src : TxSource) : (l.countChar src).run.state = l.run.state := by
  cases src <;> rfl

/-- The line once its transmitter has moved on from the character c (R16, R142). -/
def Line.charEnded (l : Line) (c : TxChar) : Line := ((l.afterChar c).countChar c.source).enforce l.owner

theorem charEnded_run (l : Line) (c : TxChar) : (l.charEnded c).run.state = l.run.state :=
  (countChar_run ..).trans (congrArg Runner.state (afterChar_run l c))

theorem keeps_charEnded (locked : Bool) (l : Line) (c : TxChar) : LineKeeps locked l (l.charEnded c) :=
  ((keeps_afterChar locked l c).trans (keeps_countChar locked _ c.source)).trans (keeps_enforce locked _ l.owner)

theorem keeps_actionEnded (s : State) (n : LineNo) (a : Action) (failed : Option FailureReason) :
    StepKeeps s (s.actionEnded n a failed) :=
  (event_actionEnded s n a failed).keeps_dormant (dormant_actionEnded s n a failed)

theorem rxdFall_keeps (n : LineNo) (ticks : Nat) (s : State) : RowKeeps s (execRxdFall n ticks s) := by
  unfold execRxdFall
  dsimp only
  split
  · exact rowKeeps_idle s
  · split
    · exact rowKeeps_next (keeps_lineUpdate (fun _ => ⟨rfl, rfl, fun _ h => h, id⟩) rfl)
    next on =>
      exact rowKeeps_finish (((event_measureEdge s n ticks true).trans
        (event_modLine (by exact keeps_fall ..))).keeps_on (Decidable.not_not.1 on))

theorem rxdRise_keeps (n : LineNo) (ticks : Nat) (s : State) : RowKeeps s (execRxdRise n ticks s) := by
  have rose : LineEvent n s ((s.measureEdge n ticks false).modLine n fun l => l.rise ticks) :=
    (event_measureEdge s n ticks false).trans (event_modLine (by exact keeps_rise ..))
  unfold execRxdRise
  dsimp only
  split
  · exact rowKeeps_idle s
  · split
    · exact rowKeeps_next (keeps_lineUpdate (fun _ => ⟨rfl, rfl, fun _ h => h, id⟩) rfl)
    next on =>
      exact rowKeeps_finish ((LineEvent.ite (rose.trans (event_breakSeen _ n)) rose).keeps_on (Decidable.not_not.1 on))

theorem startCheck_keeps (p : SamplePoint) (s : State) : RowKeeps s (execStartCheck p s) := by
  unfold execStartCheck
  dsimp only
  split
  · refine rowKeeps_if fun _ => ?_
    split
    · exact rowKeeps_next (keeps_lineUpdate (fun _ => ⟨rfl, rfl, fun _ h => h, id⟩) rfl)
    · exact rowKeeps_next (keeps_lineUpdate (fun _ => ⟨rfl, rfl, fun _ h => h, id⟩) rfl)
  · exact rowKeeps_idle s

theorem characterDelivered_keeps (p : SamplePoint) (s : State) : RowKeeps s (execCharacterDelivered p s) := by
  have done : LineEvent p.line s (s.modLine p.line fun l => { l with frame := none }) :=
    event_modLine ⟨rfl, rfl, fun _ h => h, id⟩
  unfold execCharacterDelivered
  dsimp only
  split
  · refine rowKeeps_if fun ⟨on, _⟩ => ?_
    split
    · exact rowKeeps_next ((done.trans (event_modLine ⟨rfl, rfl, fun _ h => h, id⟩)).keeps_on on)
    · exact rowKeeps_finish ((done.trans (event_deliver ..)).keeps_on on)
    · exact rowKeeps_finish ((done.trans (event_deliver ..)).keeps_on on)
  · exact rowKeeps_idle s

theorem characterStart_keeps (n : LineNo) (s : State) : RowKeeps s (execCharacterStart n s) := by
  unfold execCharacterStart
  refine rowKeeps_if fun _ => ?_
  split
  · exact rowKeeps_finish (keeps_lineUpdate (fun _ => ⟨rfl, rfl, fun _ h => h, id⟩) rfl)
  · exact rowKeeps_idle s

theorem characterEnd_keeps (n : LineNo) (s : State) : RowKeeps s (execCharacterEnd n s) := by
  unfold execCharacterEnd
  dsimp only
  split
  next c _ =>
    have ended : StepKeeps s (s.modLine n fun _ => (s.line n).charEnded c) :=
      keeps_lineUpdate (fun _ => keeps_charEnded ..) (charEnded_run ..)
    have started : ∀ b, StepKeeps s (((s.modLine n fun _ => (s.line n).charEnded c).markIf n b).startIfQueued n) :=
      fun b => (ended.trans (keeps_markIf _ n b)).trans
        ((event_startIfQueued _ n).keeps_dormant (dormant_startIfQueued _ n))
    refine rowKeeps_finish (u := if c.source = .script then _ else _) ?_
    split
    · exact (started _).trans ((event_sendEnded _ n).keeps_dormant (dormant_sendEnded _ n))
    · exact started _
  · exact rowKeeps_idle s

theorem gapExpiry_keeps (n : LineNo) (s : State) : RowKeeps s (execGapExpiry n s) := by
  unfold execGapExpiry
  split
  · exact rowKeeps_if fun _ => rowKeeps_finish (keeps_lineUpdate (fun _ => ⟨rfl, rfl, fun _ h => h, id⟩) rfl)
  · exact rowKeeps_idle s

theorem holdLimitExpiry_keeps (n : LineNo) (s : State) : RowKeeps s (execHoldLimitExpiry n s) :=
  rowKeeps_if fun _ => rowKeeps_finish <|
    (keeps_lineUpdate (fun _ => by exact keeps_clearHold ..) (by rw [clearHold_run])).trans (keeps_mark _ n)

theorem breakTimerExpiry_keeps (n : LineNo) (s : State) : RowKeeps s (execBreakTimerExpiry n s) := by
  have ended : StepKeeps s (s.modLine n Line.afterBreak) :=
    keeps_lineUpdate (fun _ => keeps_afterBreak ..) (by rw [afterBreak_run])
  unfold execBreakTimerExpiry
  split
  next b _ _ =>
    refine rowKeeps_if fun _ => rowKeeps_finish (u := if b.byStep then _ else _) ?_
    split
    · exact ended.trans (keeps_actionEnded ..)
    · exact ended
  · exact rowKeeps_idle s

theorem expire_state (o : Output) (now : Word) : (o.expire now).state = .rest := rfl

theorem pulseTimerExpiry_keeps (n : LineNo) (s : State) : RowKeeps s (execPulseTimerExpiry n s) :=
  rowKeeps_if fun _ => rowKeeps_finish <|
    ((keeps_lineUpdate (fun _ => ⟨rfl, rfl, fun _ _ => expire_state .., id⟩) rfl).trans (keeps_raise _ n _)).trans
      (keeps_actionEnded ..)

/-! ## The rows of a runner and of a detection -/

theorem busy_of_run (run : (s.line n).run.state ≠ .idle) : ¬(s.line n).Idle := fun idle => run idle.1

theorem busy_of_det (det : (s.line n).det.state ≠ .none) : ¬(s.line n).Idle := fun idle => det idle.2.2

theorem runJudged_keeps (n : LineNo) (s : State) : RowKeeps s (execRunJudged n s) :=
  rowKeeps_if fun ⟨measuring, _⟩ => rowKeeps_finish <|
    (event_judgeEdge s n).keeps_busy (busy_of_det (by rw [measuring]; exact nofun))

theorem detectLimitExpiry_keeps (n : LineNo) (s : State) : RowKeeps s (execDetectLimitExpiry n s) :=
  rowKeeps_if fun ⟨running, _⟩ => rowKeeps_finish <|
    (event_concludeDetection s n _).keeps_busy (busy_of_det ((inProgress_iff _).1 running))

theorem event_cutAction (s : State) (n : LineNo) : LineEvent n s (s.cutAction n) := by
  unfold State.cutAction
  split
  · split
    · exact event_modLine (keeps_cutStepBreaks ..)
    · exact event_cancelDetection s n
    · exact .refl n s
  · exact .refl n s

theorem stepTimerExpiry_keeps (n : LineNo) (s : State) : RowKeeps s (execStepTimerExpiry n s) :=
  rowKeeps_if fun ⟨running, _⟩ => rowKeeps_finish <|
    ((event_cutAction s n).trans (event_exitStep _ n .timeout)).keeps_busy <| busy_of_run fun idle => by
      rw [idle] at running
      exact running.elim nofun nofun

theorem waitExpired_keeps (w : Wait) :
    RowKeeps s (if s.waitExpired n w then (s.exitStep n .success).finish else .next s) :=
  rowKeeps_if fun expired => rowKeeps_finish <|
    (event_exitStep s n .success).keeps_busy <| busy_of_run fun idle => by
      unfold State.waitExpired at expired
      dsimp only at expired
      rw [idle] at expired
      exact nomatch expired

/-- A row of an action, for a step whose action has not begun (R107). -/
theorem actionRow_keeps (a : Action) {p : State × Begun} (event : LineEvent n (s.setBegun n) p.1) :
    RowKeeps s (if s.actionDue n a then State.actionBegun n p else .next s) :=
  rowKeeps_if fun due => rowKeeps_finish <|
    (((event_modRun id).trans event).trans ((event_afterAct p.1 n p.2 true).trans (event_follow n _))).keeps_busy <|
      busy_of_run fun idle => by
        unfold State.actionDue at due
        dsimp only at due
        rw [idle] at due
        exact nomatch due

/-- A row of a line's request (R168). -/
theorem requestRow_keeps {c : Prop} [Decidable c] (tag : Word) {p : State × ReqResult} (event : LineEvent n s p.1)
    (dormant : Dormant n s p.1) : RowKeeps s (if c then (State.recordResult n tag p).finish else .next s) :=
  rowKeeps_if fun _ => rowKeeps_finish (keeps_recordResult tag event dormant)

theorem stationRow_keeps {c : Prop} [Decidable c] (tag : Word) {p : State × StationResult} (judged : StepKeeps s p.1) :
    RowKeeps s (if c then (State.recordStationResult tag p).finish else .next s) :=
  rowKeeps_if fun _ => rowKeeps_finish (keeps_recordStationResult tag judged)

/-! ## The completions and the bus -/

theorem keeps_port (p : Port) (inFlight : p.inFlight = s.port.inFlight) : StepKeeps s { s with port := p } :=
  keeps_beside rfl rfl rfl rfl rfl rfl inFlight

theorem holdaRise_keeps (s : State) : RowKeeps s (execHoldaRise s) := by
  unfold execHoldaRise
  split
  · exact rowKeeps_idle s
  · dsimp only
    split
    · exact rowKeeps_finish (keeps_port _ (by rfl))
    · exact rowKeeps_next (keeps_port _ (by rfl))

/-- A read that is still to be acted on belongs to the part state (R163, R167, R187). -/
theorem State.Coherent.part_of_read {x : Transaction} (h : s.Coherent) (inFlight : s.port.inFlight = some x)
    (fresh : ¬x.stale = true) : x.job.FitsPart s.ctl.part :=
  h.reads_fit x inFlight (Bool.eq_false_iff.2 fresh)

theorem headerReadComplete_keeps (bytes : List Byte) (s : State) : RowKeeps s (execHeaderReadComplete bytes s) := by
  unfold execHeaderReadComplete
  split
  next x inFlight =>
    refine rowKeeps_if fun ⟨job, _⟩ => ?_
    split
    · exact rowKeeps_finish (keeps_completed s)
    next fresh =>
      have ⟨bounds, coherent⟩ := keeps_setPosition s.completed (some (.line 0))
      have placed : StepKeeps s { s.completed with scan := { s.scan with position := some (.line 0) } } :=
        ⟨(keeps_completed s).bounds.trans bounds, fun before => by
          have running : s.ctl.part = .running := by
            have fits := before.part_of_read inFlight fresh
            rwa [job] at fits
          exact (keeps_completed s).coherent.trans (coherent running) before⟩
      exact rowKeeps_finish (placed.trans (keeps_actOnHeader _ _))
  · exact rowKeeps_idle s

theorem lineRecordReadComplete_keeps (bytes : List Byte) (s : State) :
    RowKeeps s (execLineRecordReadComplete bytes s) := by
  unfold execLineRecordReadComplete
  split
  next x inFlight =>
    split
    next n job =>
      refine rowKeeps_if fun _ => ?_
      split
      · exact rowKeeps_finish (keeps_completed s)
      next fresh =>
        have ⟨bounds, coherent⟩ := keeps_actOnLine s.completed n (lineHostOf bytes)
        have ⟨bounds', coherent'⟩ := keeps_sweepOn (s.completed.actOnLine n (lineHostOf bytes)) n
        have part : (s.completed.actOnLine n (lineHostOf bytes)).ctl.part = s.ctl.part :=
          congrArg Control.part (ctl_of_common (common_actOnLine s.completed n _))
        refine rowKeeps_finish ⟨((keeps_completed s).bounds.trans bounds).trans bounds', fun before => ?_⟩
        have running : s.ctl.part = .running := by
          have fits := before.part_of_read inFlight fresh
          rwa [job] at fits
        exact (((keeps_completed s).coherent.trans (coherent running)).trans (coherent' (part.trans running))) before
    · exact rowKeeps_idle s
  · exact rowKeeps_idle s

theorem startHeaderReadComplete_keeps (bytes : List Byte) (s : State) :
    RowKeeps s (execStartHeaderReadComplete bytes s) := by
  unfold execStartHeaderReadComplete
  split
  next x inFlight =>
    refine rowKeeps_if fun ⟨job, _⟩ => ?_
    split
    · exact rowKeeps_finish (keeps_completed s)
    next fresh =>
      have started : StepKeeps s (s.completed.started (headerHostOf bytes)) := by
        refine ⟨(keeps_completed s).bounds.trans (keepsBounds_started _ _), fun before => ?_⟩
        have starting : s.ctl.part = .starting := by
          have fits := before.part_of_read inFlight fresh
          rwa [job] at fits
        have still : s.completed.ctl.part ≠ .running := by
          intro running
          exact nomatch starting.symm.trans running
        exact ((keeps_completed s).coherent.trans (keepsCoherent_started still rfl _)) before
      rw [actOnStart_eq]
      exact rowKeeps_finish (started.trans (keeps_afterStarted _ _))
  · exact rowKeeps_idle s

theorem captureWriteComplete_keeps (s : State) : RowKeeps s (execCaptureWriteComplete s) := by
  unfold execCaptureWriteComplete
  split
  next x _ =>
    split
    next n _ =>
      refine rowKeeps_finish (u := if x.stale then _ else _) ?_
      split
      · exact keeps_completed s
      · exact (keeps_completed s).trans ((event_captureWritten _ n _).keeps_dormant (dormant_captureWritten _ n x.length))
    · exact rowKeeps_idle s
  · exact rowKeeps_idle s

/-- The bytes of a fetch are as many as it read, 64 at most (R148, R149). -/
theorem keeps_placeFetch {bytes : List Byte} (short : s.Bounded → bytes.length ≤ 64) :
    StepKeeps s (s.completed.placeFetch n bytes) := by
  have done := keeps_completed s
  have coherent : KeepsCoherent s.completed (s.completed.placeFetch n bytes) := by
    unfold State.placeFetch
    dsimp only
    split
    next on =>
      exact keepsCoherent_modLine fun coherent => ⟨rfl, id, fun off => absurd on.1 off, fun _ => by
        by_contra still
        exact coherent.still_off still n on.1⟩
    · exact (StepKeeps.refl _).coherent
  have bounds : KeepsBounds s (s.completed.placeFetch n bytes) := by
    unfold State.placeFetch
    dsimp only
    split
    · refine keepsBounds_line (n := n) rfl (readsWithin_none rfl) (others_modLine s.completed n _) fun h => ?_
      obtain ⟨history, fifo, trail, -, dropped⟩ := h.1 n
      rw [line_modLine_self]
      exact ⟨history, fifo, trail, (List.length_take_le' _ _).trans (short h), dropped⟩
    · exact done.bounds
  exact ⟨bounds, done.coherent.trans coherent⟩

theorem outboundFetchComplete_keeps (bytes : List Byte) (s : State) :
    RowKeeps s (execOutboundFetchComplete bytes s) := by
  unfold execOutboundFetchComplete
  split
  next x inFlight =>
    split
    next n job =>
      refine rowKeeps_if fun length => rowKeeps_finish (u := if x.stale then _ else _) ?_
      split
      · exact keeps_completed s
      · exact keeps_placeFetch fun h => length ▸ h.2 x n inFlight job
    · exact rowKeeps_idle s
  · exact rowKeeps_idle s

theorem keeps_setReports (s : State) (r : Reports) : StepKeeps s { s with reports := r } :=
  keeps_beside rfl rfl rfl rfl rfl rfl rfl

theorem keeps_releaseLine (s : State) (n : LineNo) : StepKeeps s (s.releaseLine n) :=
  (keeps_recordLine s n _).trans (keeps_setReports _ _)

theorem keeps_releaseStation (s : State) : StepKeeps s s.completed.releaseStation := by
  have recorded := (keeps_completed s).trans (keeps_recordStation s.completed s.completed.reports.carriedStation)
  unfold State.releaseStation
  dsimp only
  split
  next final =>
    obtain ⟨stopping, -⟩ := final
    exact recorded.trans (keeps_stillPart rfl rfl rfl rfl rfl (by rw [stopping]; exact nofun) rfl
      (readsWithin_none rfl) fun _ _ inFlight => nomatch inFlight)
  · exact recorded.trans (keeps_beside rfl rfl rfl rfl rfl rfl rfl)

theorem reportWriteComplete_keeps (s : State) : RowKeeps s (execReportWriteComplete s) := by
  unfold execReportWriteComplete
  split
  · split
    · exact rowKeeps_finish ((keeps_completed s).trans (keeps_releaseLine ..))
    · exact rowKeeps_finish (keeps_releaseStation s)
    · exact rowKeeps_idle s
  · exact rowKeeps_idle s

theorem loadReadComplete_keeps (bytes : List Byte) (s : State) : RowKeeps s (execLoadReadComplete bytes s) := by
  unfold execLoadReadComplete
  split
  · split
    · refine rowKeeps_if fun _ => ?_
      split
      · exact rowKeeps_finish ((keeps_completed s).trans (keeps_loadBytes ..))
      · exact rowKeeps_finish (keeps_completed s)
    · exact rowKeeps_idle s
  · exact rowKeeps_idle s

theorem accessTimeout_keeps (s : State) : RowKeeps s (execAccessTimeout s) := by
  unfold execAccessTimeout
  split
  · exact rowKeeps_finish (keeps_recordFault ..)
  · exact rowKeeps_idle s

theorem busError_keeps (s : State) : RowKeeps s (execBusError s) := by
  unfold execBusError
  split
  · exact rowKeeps_finish (keeps_recordFault ..)
  · exact rowKeeps_idle s

/-! ## The registers -/

theorem controlRow_keeps (s : State) (run ie sn : Bool) :
    RowKeeps s (if s.answers then (s.controlWrite run ie sn).finish else .next s) :=
  rowKeeps_if fun _ => rowKeeps_finish (keeps_controlWrite ..)

theorem keeps_setControl (s : State) (c : Control) (base : s.BaseAligned → ({ s with ctl := c } : State).BaseAligned)
    (part : c.part = s.ctl.part) : StepKeeps s { s with ctl := c } :=
  keeps_frame rfl rfl rfl rfl base part (fun _ h => h) (readsWithin_same rfl)

theorem noticeRead_keeps (lane : Lane) (s : State) : RowKeeps s (execNoticeRead lane s) :=
  rowKeeps_if fun _ => rowKeeps_next (keeps_beside rfl rfl rfl rfl rfl rfl rfl)

theorem stopWindUpComplete_keeps (s : State) : RowKeeps s (execStopWindUpComplete s) := by
  unfold execStopWindUpComplete
  refine rowKeeps_if fun wound => rowKeeps_finish ?_
  have stopping : s.ctl.part = .stopping := by
    simp only [State.woundUp, Bool.and_eq_true, beq_iff_eq] at wound
    exact wound.1.1.1.1
  split
  · refine keeps_stillPart rfl rfl rfl rfl rfl (by rw [stopping]; exact nofun) rfl (readsWithin_same rfl)
      fun coherent x inFlight fresh => ?_
    have fits := coherent.reads_fit x inFlight fresh
    exact fitsPart_halted (stopping ▸ fits)
  · exact (keeps_raiseStation s .stopped).trans (keeps_setControl _ _ id rfl)

/-! ## Every row -/

/-- Every row but a pin reset keeps the invariants and loses no line of the Lock Set. -/
theorem exec_keeps (c : Instr) (s : State) (noPin : c ≠ .pinReset) : RowKeeps s (exec c s) := by
  cases c with
  | pinReset => exact absurd rfl noPin
  | softReset others => exact rowKeeps_if fun _ => rowKeeps_next (keeps_softReset s)
  | noticeRead lane => exact noticeRead_keeps lane s
  | resetnRise => exact rowKeeps_if fun _ => rowKeeps_next (keeps_setControl s _ id rfl)
  | runWritten1 ie sn => exact controlRow_keeps s true ie sn
  | runWritten0 ie sn => exact controlRow_keeps s false ie sn
  | sweepNow run ie => exact controlRow_keeps s run ie true
  | intEnable value run sn => exact controlRow_keeps s run value sn
  | stationBaseWrite addr =>
    exact rowKeeps_if fun _ => rowKeeps_next (keeps_setControl s _ (fun _ => alignedBase_low addr) rfl)
  | faultStateWrite value => exact rowKeeps_if fun _ => rowKeeps_finish (keeps_clearFault s)
  | registerWriteIgnored offset width value => exact rowKeeps_idle s
  | timeBaseAdvance => exact rowKeeps_if fun _ => rowKeeps_next (keeps_advance s)
  | rxdFall n ticks => exact rxdFall_keeps n ticks s
  | rxdRise n ticks => exact rxdRise_keeps n ticks s
  | absentTimeExpiry n => exact rowKeeps_if fun ⟨on, _⟩ => rowKeeps_finish ((event_changeCondition s n _).keeps_on on)
  | markingTimerExpiry n => exact rowKeeps_if fun ⟨on, _⟩ => rowKeeps_finish ((event_changeCondition s n _).keeps_on on)
  | characterDelivered p => exact characterDelivered_keeps p s
  | runJudged n => exact runJudged_keeps n s
  | detectLimitExpiry n => exact detectLimitExpiry_keeps n s
  | characterStart n => exact characterStart_keeps n s
  | characterEnd n => exact characterEnd_keeps n s
  | gapExpiry n => exact gapExpiry_keeps n s
  | holdLimitExpiry n => exact holdLimitExpiry_keeps n s
  | breakTimerExpiry n => exact breakTimerExpiry_keeps n s
  | pulseTimerExpiry n => exact pulseTimerExpiry_keeps n s
  | stepTimerExpiry n => exact stepTimerExpiry_keeps n s
  | quietExpiry n => exact waitExpired_keeps .quiet
  | elapseExpiry n => exact waitExpired_keeps .elapse
  | noneAction n => exact actionRow_keeps .none (.refl n _)
  | send n => exact actionRow_keeps .send (.refl n _)
  | breakAction n => exact actionRow_keeps .brk (event_actBreak _ n)
  | pulseAction n => exact actionRow_keeps .pulse (event_actPulse _ n)
  | driveActiveAction n => exact actionRow_keeps .driveActive (event_actDrive _ n .active)
  | driveRestAction n => exact actionRow_keeps .driveRest (event_actDrive _ n .rest)
  | setRate n => exact actionRow_keeps .setRate (event_setPeriod _ n _)
  | detectRate n => exact actionRow_keeps .detectRate (event_actDetect _ n)
  | armTriggerAction n => exact actionRow_keeps .armTrigger (event_actArm _ n)
  | signal n => exact actionRow_keeps .signal ((event_modRun id).trans (event_raise _ n n _))
  | loadCounter n => exact actionRow_keeps .loadCounter ((event_modRun id).trans (event_mark _ n n))
  | countDown n => exact actionRow_keeps .countDown (event_actCountDown _ n)
  | sweepTimerExpiry =>
    exact rowKeeps_if fun _ => rowKeeps_finish ((keeps_setScan s _ (by rfl)).trans (keeps_askSweep _))
  | sweepStart => exact rowKeeps_if fun _ => rowKeeps_finish (keeps_startSweep s)
  | headerReadComplete bytes => exact headerReadComplete_keeps bytes s
  | loadRequest tag block source => exact stationRow_keeps tag (keeps_judgeLoad s block source)
  | unloadRequest tag block => exact stationRow_keeps tag (keeps_judgeUnload s block)
  | unknownStationCode tag code => exact stationRow_keeps tag (.refl s)
  | lineRecordReadComplete bytes => exact lineRecordReadComplete_keeps bytes s
  | startRequest n tag block entry =>
    exact requestRow_keeps tag (event_judgeStart s n block entry) (dormant_judgeStart s n block entry)
  | pauseRequest n tag => exact requestRow_keeps tag (event_judgePause s n) (dormant_unlessOff _ _)
  | resumeRequest n tag => exact requestRow_keeps tag (event_judgeResume s n) (dormant_unlessOff _ _)
  | abortRequest n tag => exact requestRow_keeps tag (event_judgeAbort s n) (dormant_judgeAbort s n)
  | breakRequest n tag length => exact requestRow_keeps tag (event_judgeBreak s n length) (dormant_unlessOff _ _)
  | pulseRequest n tag width => exact requestRow_keeps tag (event_judgePulse s n width) (dormant_judgePulse s n width)
  | driveActiveRequest n tag => exact requestRow_keeps tag (event_judgeDrive s n .active) (dormant_judgeDrive s n .active)
  | driveRestRequest n tag => exact requestRow_keeps tag (event_judgeDrive s n .rest) (dormant_judgeDrive s n .rest)
  | applyRequest n tag host => exact requestRow_keeps tag (event_judgeApply s n host) (dormant_unlessOff _ _)
  | detectRequest n tag => exact requestRow_keeps tag (event_judgeDetect s n) (dormant_unlessOff _ _)
  | armTriggerRequest n tag post pattern =>
    exact requestRow_keeps tag (event_judgeArm s n post pattern) (dormant_unlessOff _ _)
  | disarmRequest n tag => exact requestRow_keeps tag (event_judgeDisarm s n) (dormant_judgeDisarm s n)
  | thawRequest n tag => exact requestRow_keeps tag (event_triggerOff s n) (dormant_triggerOff s n)
  | unknownCodeRequest n tag code => exact requestRow_keeps tag (.refl n s) (.refl n s)
  | startHeaderReadComplete bytes => exact startHeaderReadComplete_keeps bytes s
  | holdaRise => exact holdaRise_keeps s
  | grantTimeout => exact rowKeeps_if fun _ => rowKeeps_finish (keeps_recordFault ..)
  | accessTimeout => exact accessTimeout_keeps s
  | busError => exact busError_keeps s
  | lateBusAnswer => exact rowKeeps_idle s
  | captureWriteComplete => exact captureWriteComplete_keeps s
  | outboundFetchComplete bytes => exact outboundFetchComplete_keeps bytes s
  | reportWriteComplete => exact reportWriteComplete_keeps s
  | loadReadComplete bytes => exact loadReadComplete_keeps bytes s
  | stopWindUpComplete => exact stopWindUpComplete_keeps s
  | startCheck p => exact startCheck_keeps p s
  | holdaFall => exact rowKeeps_next (keeps_port _ (by rfl))

/-! ## Every step -/

theorem keeps_setPending (s : State) (rest : List Instr) : StepKeeps s { s with pending := rest } :=
  keeps_beside rfl rfl rfl rfl rfl rfl rfl

/-- A step keeps the invariants and the Lock Set, or it is a pin reset. -/
theorem step_keeps {s t : State} (h : step s = .next t) :
    ((∀ rest, s.pending ≠ .pinReset :: rest) ∧ StepKeeps s t) ∨
      ((∃ rest, s.pending = .pinReset :: rest) ∧ t.AtReset ∧ t.lockSet = 0) := by
  unfold step at h
  split at h
  next none =>
    cases h
    exact .inl ⟨fun rest some => (nomatch none.symm.trans some), .refl s⟩
  next c rest front =>
    by_cases pin : c = .pinReset
    · subst pin
      cases h
      exact .inr ⟨⟨rest, front⟩, resetTo_atReset .., rfl⟩
    · refine .inl ⟨fun rest' same => pin ?_, (keeps_setPending s rest).trans (exec_keeps c _ pin t h)⟩
      exact (List.cons.inj (front.symm.trans same)).1

end

/-! ## The obligations -/

/-- Settles O59: every operation of the rows keeps the part coherent, row by row. -/
theorem stepKeepsCoherent : Obligations.StepKeepsCoherent := by
  intro s t coherent finder h
  rcases step_keeps h with ⟨-, keeps⟩ | ⟨-, reset, -⟩
  · exact (keeps.coherent coherent finder).1
  · exact reset.coherent

/-- Settles O60: with the coherence of the part. -/
theorem stepKeepsFinderCoherent : Obligations.StepKeepsFinderCoherent := by
  intro s t coherent finder h
  rcases step_keeps h with ⟨-, keeps⟩ | ⟨-, reset, -⟩
  · exact (keeps.coherent coherent finder).2
  · exact reset.finder

/-- Settles O57: no operation brings a list of a line over its bound, and a fetch is formed for 64 bytes at most. -/
theorem stepKeepsBounds : Obligations.StepKeepsBounds := by
  intro s t h
  rcases step_keeps h with ⟨-, keeps⟩ | ⟨-, reset, -⟩
  · exact ⟨keeps.bounds.base, keeps.bounds.bounded⟩
  · exact ⟨fun _ => reset.base, fun _ => reset.bounded⟩

/-- Settles O58: only a start adds to the Lock Set, and only a pin reset takes from it. -/
theorem lockSetOnlyGrows : Obligations.LockSetOnlyGrows := by
  intro s t h
  rcases step_keeps h with ⟨others, keeps⟩ | ⟨⟨rest, front⟩, -, empty⟩
  · exact ⟨fun _ => keeps.bounds.lock, fun ⟨rest, front⟩ => absurd front (others rest)⟩
  · exact ⟨fun others => absurd front (others rest), fun _ => empty⟩

/-- Settles O56. -/
theorem resetHasTheInvariants : Obligations.ResetHasTheInvariants :=
  ⟨reset_atReset.coherent, reset_atReset.finder, reset_atReset.base, reset_atReset.bounded⟩

end Sys2Proof.Machine
end

section
/-! SUPPORT. The queue, the reset values, and the registers (11_registers_notices_and_start_up.md). -/

namespace Sys2Proof.Machine

/-- Settles O1. -/
theorem stepRunsTheFrontCommand : Obligations.StepRunsTheFrontCommand := by
  refine ⟨fun c rest s => rfl, fun s none => ?_⟩
  unfold step
  rw [none]

/-! ## Reset (R193) -/

theorem line_reset (n : LineNo) : State.reset.line n = Line.reset := Vector.getElem_replicate n.isLt

theorem block_reset (b : BlockNo) : State.reset.block b = Block.reset := Vector.getElem_replicate b.isLt

/-- Settles O2: every line and every block of the reset state has the reset values, and the rest are read off. -/
theorem resetState : Obligations.ResetState := by
  refine ⟨⟨rfl, rfl, rfl, rfl, rfl⟩, ⟨rfl, rfl, rfl, rfl, rfl, rfl, rfl⟩, ⟨rfl, rfl, rfl, rfl, rfl, rfl, rfl⟩,
    ⟨rfl, rfl, rfl, rfl, rfl, rfl, rfl, rfl⟩, ⟨rfl, rfl, rfl, rfl, rfl, rfl, rfl, rfl⟩,
    ⟨rfl, rfl, rfl, rfl, rfl, rfl, rfl, rfl, rfl, rfl⟩, fun b => ?blocks, fun n => ?lines⟩
  case blocks =>
    rw [block_reset]
    exact ⟨rfl, rfl, rfl, rfl⟩
  case lines =>
    have pending : State.reset.notices.line.get n = 0 := Vector.getElem_replicate n.isLt
    have dirty : State.reset.reports.dirty.get n = false := Vector.getElem_replicate n.isLt
    have held : State.reset.reports.held.get n = 0 := Vector.getElem_replicate n.isLt
    simp only [State.outDriven, State.txd, line_reset]
    refine ⟨⟨pending, dirty, held, rfl⟩, ?_⟩
    refine ⟨⟨rfl, rfl, rfl, rfl, rfl, rfl, rfl, rfl, rfl⟩, ⟨rfl, rfl, rfl, rfl, rfl, rfl, rfl⟩,
      ⟨rfl, rfl, rfl, rfl, rfl, rfl⟩, ⟨rfl, rfl, rfl⟩, ⟨rfl, rfl, rfl, rfl, rfl, rfl, rfl⟩,
      ⟨rfl, rfl, rfl, rfl, rfl, rfl, rfl⟩, rfl, ⟨rfl, rfl, rfl, rfl, rfl, rfl, fun _ => rfl⟩,
      ⟨rfl, rfl, rfl, rfl, rfl, rfl⟩, ⟨rfl, rfl, rfl, rfl, rfl, rfl, rfl⟩,
      ⟨rfl, rfl, rfl, rfl, rfl, rfl, rfl, rfl, rfl, rfl, rfl, rfl, rfl⟩, rfl, rfl, rfl, rfl⟩

/-- Settles O3: both resets are the one reset, with the Lock Set and the level of RESETN that each brings. -/
theorem resetsSetEverything : Obligations.ResetsSetEverything := by
  rintro c s (rfl | ⟨⟨others, rfl⟩, answers⟩)
  · exact ⟨s.resetTo 0 true, rfl, fun _ => ⟨rfl, rfl⟩, fun soft => absurd rfl soft, line_resetTo s 0 true,
      rfl, rfl, rfl, rfl, rfl, rfl, rfl, rfl, rfl, rfl, rfl, rfl⟩
  · exact ⟨s.resetTo s.lockSet false, exec_softReset others answers, nofun, fun _ => ⟨rfl, rfl⟩,
      line_resetTo s s.lockSet false, rfl, rfl, rfl, rfl, rfl, rfl, rfl, rfl, rfl, rfl, rfl, rfl⟩

theorem not_answers {s : State} (low : s.ctl.inReset = true) : ¬s.answers = true := by
  simp [State.answers, low]

/-- Settles O4: every register row asks whether the part answers, and it does not while RESETN is low. -/
theorem resetHoldsTheRegisters : Obligations.ResetHoldsTheRegisters := by
  refine ⟨⟨fun s low => if_pos low, fun s => ⟨_, _, rfl, rfl, rfl, rfl, rfl⟩⟩, fun s low => ?silent,
    fun s => ⟨fun _ _ _ => rfl, rfl⟩⟩
  case silent =>
    have silent := not_answers low
    exact ⟨fun _ => if_neg silent, fun _ _ => if_neg silent, fun _ _ => if_neg silent, fun _ _ => if_neg silent,
      fun _ _ _ => if_neg silent, fun _ => if_neg fun ⟨answers, _⟩ => silent answers, fun _ => if_neg silent,
      fun _ => if_neg fun ⟨answers, _⟩ => silent answers, if_neg silent, fun lane k => regRead_inReset s lane k low⟩

/-! ## CONTROL (R186, R187) -/

/-- The state with INT_ENABLE as written. -/
def State.enabled (s : State) (intEnable : Bool) : State := { s with ctl := { s.ctl with intEnable := intEnable } }

section
variable {s : State}

theorem exec_runWritten0 (ie sn : Bool) (answers : s.ctl.inReset = false) :
    exec (.runWritten0 ie sn) s = .next (s.controlWrite false ie sn).settlePort :=
  if_pos (answers_of_notInReset answers)

theorem exec_sweepNow (run ie : Bool) (answers : s.ctl.inReset = false) :
    exec (.sweepNow run ie) s = .next (s.controlWrite run ie true).settlePort :=
  if_pos (answers_of_notInReset answers)

/-- SWEEP_NOW with the part not RUNNING once RUN is taken. -/
theorem controlWrite_still (run ie sn : Bool)
    (still : (if run then (s.enabled ie).runOne else (s.enabled ie).runZero).ctl.part ≠ .running) :
    s.controlWrite run ie sn = if run then (s.enabled ie).runOne else (s.enabled ie).runZero :=
  if_neg fun ⟨_, running⟩ => still running

theorem runOne_refused (refused : s.ctl.part = .halted → s.ctl.base = 0 ∨ s.port.flag = true) : s.runOne = s :=
  if_neg fun ⟨halted, set, clear⟩ => (refused halted).elim set fun flag => nomatch clear.symm.trans flag

theorem runOne_starts (halted : s.ctl.part = .halted) (set : s.ctl.base ≠ 0) (clear : s.port.flag = false) :
    s.runOne = { s with ctl := { s.ctl with part := .starting, windUp := false } } := if_pos ⟨halted, set, clear⟩

theorem runOne_active (active : s.ctl.part ≠ .halted) : s.runOne = s := if_neg fun ⟨halted, _⟩ => active halted

theorem controlWrite_runOne_kept (ie sn : Bool) (kept : (s.enabled ie).runOne = s.enabled ie)
    (still : sn = true → s.ctl.part ≠ .running) : s.controlWrite true ie sn = s.enabled ie := by
  have sweep : ¬(sn = true ∧ (s.enabled ie).runOne.ctl.part = .running) := fun ⟨now, running⟩ => by
    rw [kept] at running
    exact still now running
  exact (if_neg sweep).trans kept

/-- The client at the head of the cyclic order is one of the five. -/
theorem clientsAfter_all (c d : Client) : d ∈ clientsAfter c := by
  cases c <;> cases d <;> decide

theorem firstAsking_isSome {c : Client} (asks : s.asking c = true) : s.firstAsking.isSome = true :=
  List.find?_isSome.2 ⟨c, clientsAfter_all _ c, asks⟩

theorem raiseHold_idle (idle : s.port.bus = .idle) (clear : s.port.flag = false) {c : Client}
    (asks : s.asking c = true) : s.raiseHold.port.bus = .requesting := by
  obtain ⟨d, first⟩ := Option.isSome_iff_exists.1 (firstAsking_isSome asks)
  unfold State.raiseHold
  rw [if_pos ⟨idle, clear⟩, first]

theorem settlePort_idle (idle : s.port.bus = .idle) : s.settlePort = s.raiseHold :=
  if_neg fun ⟨holding, _⟩ => nomatch idle.symm.trans holding

theorem settlePort_lines (s : State) : s.settlePort.lines = s.lines := (settlePort_keeps s).lines
theorem settlePort_scan (s : State) : s.settlePort.scan = s.scan := scan_of_common (settlePort_keeps s).common
theorem settlePort_notices (s : State) : s.settlePort.notices = s.notices :=
  notices_of_common (settlePort_keeps s).common
theorem settlePort_lockSet (s : State) : s.settlePort.lockSet = s.lockSet :=
  congrArg Common.lockSet (settlePort_keeps s).common

/-- The part starts: the Scanner asks for the header read, and an idle port raises HOLD. -/
theorem settlePort_raises (starting : s.ctl.part = .starting) (idle : s.port.bus = .idle)
    (clear : s.port.flag = false) : s.settlePort.holdPin = true := by
  have asks : s.asking .scanner = true := by
    change s.scanJob.isSome = true
    rw [State.scanJob, if_pos starting]
    rfl
  rw [State.holdPin, settlePort_idle idle, raiseHold_idle idle clear asks]
  rfl

theorem runOne_row (ie sn : Bool) (answers : s.ctl.inReset = false) :
    (s.ctl.part = .halted → (s.ctl.base = 0 ∨ s.port.flag = true) →
      exec (.runWritten1 ie sn) s = .next (s.enabled ie).settlePort) ∧
    (s.ctl.part = .halted → s.ctl.base ≠ 0 → s.port.flag = false →
      ∃ t : State, exec (.runWritten1 ie sn) s = .next t ∧
        t.ctl = { s.ctl with intEnable := ie, part := .starting, windUp := false } ∧
        t.lines = s.lines ∧ t.scan = s.scan ∧ t.notices = s.notices ∧ t.lockSet = s.lockSet ∧
        (s.port.bus = .idle → t.holdPin = true)) ∧
    ((s.ctl.part = .starting ∨ s.ctl.part = .stopping) →
      exec (.runWritten1 ie sn) s = .next (s.enabled ie).settlePort) ∧
    (s.ctl.part = .running → sn = false → exec (.runWritten1 ie sn) s = .next (s.enabled ie).settlePort) := by
  have kept : (s.enabled ie).runOne = s.enabled ie → (sn = true → s.ctl.part ≠ .running) →
      exec (.runWritten1 ie sn) s = .next (s.enabled ie).settlePort := fun kept still => by
    rw [exec_runWritten1 ie sn answers, controlWrite_runOne_kept ie sn kept still]
  refine ⟨fun halted refused => kept (runOne_refused fun _ => refused) fun _ => by rw [halted]; exact nofun,
    fun halted set clear => ?_,
    fun part => kept (runOne_active fun halted => ?_) fun _ running => ?_,
    fun running no => kept (runOne_active fun halted => nomatch halted.symm.trans running) fun now => nomatch no.symm.trans now⟩
  · have starts := runOne_starts (s := s.enabled ie) halted set clear
    have written : s.controlWrite true ie sn =
        { s.enabled ie with ctl := { (s.enabled ie).ctl with part := .starting, windUp := false } } :=
      (if_neg fun (⟨_, running⟩ : _ ∧ (s.enabled ie).runOne.ctl.part = .running) => by
        rw [starts] at running
        exact nomatch running).trans starts
    refine ⟨_, exec_runWritten1 ie sn answers, ?_⟩
    rw [settlePort_ctl, settlePort_lines, settlePort_scan, settlePort_notices, settlePort_lockSet, written]
    exact ⟨rfl, rfl, rfl, rfl, rfl, fun idle => settlePort_raises rfl idle clear⟩
  · exact part.elim (fun starting => nomatch starting.symm.trans halted) fun stopping => nomatch stopping.symm.trans halted
  · exact part.elim (fun starting => nomatch starting.symm.trans running) fun stopping => nomatch stopping.symm.trans running

/-- What was in flight and has been met by a staleness mark. -/
theorem makeStale_stale {p : Job → Bool} {x : Transaction} (inFlight : (s.makeStale p).port.inFlight = some x)
    (meant : p x.job = true) : x.stale = true := by
  obtain ⟨y, -, rfl⟩ := Option.map_eq_some_iff.1 inFlight
  split
  · rfl
  next other =>
    rw [if_neg other] at meant
    exact absurd meant other

theorem runZero_starting (starting : s.ctl.part = .starting) :
    s.runZero = { s.staleScan with ctl := { s.ctl with part := .halted } } := by
  unfold State.runZero
  rw [starting]

theorem runZero_still (still : s.ctl.part = .halted ∨ s.ctl.part = .stopping) : s.runZero = s := by
  unfold State.runZero
  rcases still with part | part <;> rw [part]

theorem runZero_row (ie sn : Bool) (answers : s.ctl.inReset = false) :
    ((s.ctl.part = .halted ∨ s.ctl.part = .stopping) →
      exec (.runWritten0 ie sn) s = .next (s.enabled ie).settlePort) ∧
    (s.ctl.part = .starting →
      ∃ u : State, exec (.runWritten0 ie sn) s = .next u.settlePort ∧
        u.ctl = { s.ctl with intEnable := ie, part := .halted } ∧ u.lines = s.lines ∧ u.linesInUse = s.linesInUse ∧
        u.lockSet = s.lockSet ∧ u.scan = s.scan ∧ u.notices = s.notices ∧ u.reports = s.reports ∧ u.store = s.store ∧
        ∀ t, u.port.inFlight = some t → t.job.client = .scanner → t.stale = true) := by
  refine ⟨fun still => ?_, fun starting => ?_⟩
  · have kept := runZero_still (s := s.enabled ie) still
    rw [exec_runWritten0 ie sn answers]
    refine congrArg (fun t : State => Host.Outcome.next t.settlePort) ((controlWrite_still false ie sn ?_).trans kept)
    change (s.enabled ie).runZero.ctl.part ≠ .running
    rw [kept]
    exact fun running => still.elim (fun part => nomatch part.symm.trans running) fun part => nomatch part.symm.trans running
  · have given := runZero_starting (s := s.enabled ie) starting
    have written : s.controlWrite false ie sn =
        { (s.enabled ie).staleScan with ctl := { (s.enabled ie).ctl with part := .halted } } :=
      (controlWrite_still false ie sn (by
        change (s.enabled ie).runZero.ctl.part ≠ .running
        rw [given]
        exact nofun)).trans given
    refine ⟨{ (s.enabled ie).staleScan with ctl := { (s.enabled ie).ctl with part := .halted } },
      (exec_runWritten0 ie sn answers).trans (congrArg (fun t : State => Host.Outcome.next t.settlePort) written), rfl, rfl, rfl, rfl, rfl, rfl, rfl, rfl,
      fun t inFlight client => makeStale_stale (s := s.enabled ie) (p := fun j => j.client == .scanner) inFlight ?_⟩
    rw [client]
    rfl

end

/-! ## The register window (R184, R186, R194) -/

theorem getLsbD_of_low {x v : Word} (same : x &&& 0xF = v &&& 0xF) {k : Nat} (low : k < 4) :
    x.getLsbD k = v.getLsbD k := by
  have bit : (0xF : Word).getLsbD k = true := by interval_cases k <;> decide
  have both := congrArg (fun w : Word => w.getLsbD k) same
  simpa only [BitVec.getLsbD_and, bit, Bool.and_true] using both

theorem exec_controlRow (v : Word) (s : State) : exec (controlRow v) s =
    if v.getLsbD 3 then exec (.softReset v) s
    else if v.getLsbD 0 then exec (.runWritten1 (v.getLsbD 1) (v.getLsbD 2)) s
    else exec (.runWritten0 (v.getLsbD 1) (v.getLsbD 2)) s := by
  unfold controlRow
  dsimp only
  split
  · rfl
  · split <;> rfl

theorem exec_controlRow_low {x v : Word} (same : x &&& 0xF = v &&& 0xF) (s : State) :
    exec (controlRow x) s = exec (controlRow v) s := by
  rw [exec_controlRow, exec_controlRow, getLsbD_of_low same (k := 0) (by decide), getLsbD_of_low same (k := 1) (by decide),
    getLsbD_of_low same (k := 2) (by decide), getLsbD_of_low same (k := 3) (by decide)]
  rfl

theorem registerWrite_ignored {offset : Nat} (v : Word) (station : offset ≠ 0x04) (control : offset ≠ 0x08)
    (fault : offset ≠ 0x10) : registerWrite offset .word v = .registerWriteIgnored offset .word v := by
  unfold registerWrite
  split
  · exact absurd rfl station
  · exact absurd rfl control
  · exact absurd rfl fault
  · rfl

/-- Settles O5: the rows of RUN by the part state, and the write of CONTROL as the row it stands for. -/
theorem runBit : Obligations.RunBit := by
  refine ⟨fun ie sn s answers => runOne_row ie sn answers, fun ie sn s answers => runZero_row ie sn answers,
    fun offset v s => ⟨fun soft others => ?_, fun hard => ⟨fun run => ?_, fun run => ?_, ?_, fun now => ?_⟩,
      fun x same => exec_controlRow_low same s, rfl, rfl, fun station control fault => ?_, rfl, rfl⟩⟩
  · exact (exec_controlRow v s).trans (if_pos soft)
  · exact (exec_controlRow v s).trans (by rw [hard, run]; rfl)
  · exact (exec_controlRow v s).trans (by rw [hard, run]; rfl)
  · exact (exec_controlRow v s).trans (by rw [hard]; cases v.getLsbD 0 <;> rfl)
  · exact (exec_controlRow v s).trans (by rw [hard, now]; cases v.getLsbD 0 <;> rfl)
  · rw [registerWrite_ignored v station control fault]
    rfl

end Sys2Proof.Machine
end

section
/-! SUPPORT. The sweep's start (R162), the notices (R189), FAULT_STATE (R182) and the Time Base (R159, R160). -/

namespace Sys2Proof.Machine

section
variable {s : State}

/-! ## A sweep is asked for (R162) -/

theorem sweepMayStart_iff : s.sweepMayStart = true ↔
    s.scan.pending = true ∧ s.scan.position = none ∧ s.ctl.part = .running ∧ s.port.flag = false := by
  simp only [State.sweepMayStart, Bool.and_eq_true, beq_iff_eq, Bool.not_eq_true', Option.isNone_iff_eq_none, and_assoc]

theorem startSweep_starts (may : s.sweepMayStart = true) :
    s.startSweep = { s with scan := { s.scan with pending := false, position := some .header } } := if_pos may

theorem startSweep_waits (not : s.sweepMayStart = false) : s.startSweep = s := if_neg (Bool.eq_false_iff.1 not)

theorem askSweep_starts (pending : s.scan.pending = false) (position : s.scan.position = none)
    (running : s.ctl.part = .running) (clear : s.port.flag = false) :
    s.askSweep = { s with scan := { s.scan with pending := false, position := some .header } } :=
  (if_neg (Bool.eq_false_iff.1 pending)).trans
    (startSweep_starts (s := { s with scan := { s.scan with pending := true } })
      (sweepMayStart_iff.2 ⟨rfl, position, running, clear⟩))

theorem askSweep_waits (busy : s.scan.pending = true ∨ s.scan.position ≠ none ∨ s.port.flag = true) :
    s.askSweep = { s with scan := { s.scan with pending := true } } := by
  by_cases pending : s.scan.pending = true
  · have same : ({ s.scan with pending := true } : Scanner) = s.scan := by rw [← pending]
    exact (if_pos pending).trans (by rw [same])
  · refine (if_neg pending).trans (startSweep_waits (s := { s with scan := { s.scan with pending := true } })
      (Bool.eq_false_iff.2 fun may => ?_))
    obtain ⟨-, position, -, clear⟩ := sweepMayStart_iff.1 may
    rcases busy with is | is | is
    · exact pending is
    · exact is position
    · exact nomatch clear.symm.trans is

theorem controlWrite_sweepNow_running (ie : Bool) (running : s.ctl.part = .running) :
    s.controlWrite true ie true = (s.enabled ie).askSweep := by
  have kept : (s.enabled ie).runOne = s.enabled ie := runOne_active fun halted => nomatch halted.symm.trans running
  have now : true = true ∧ (s.enabled ie).runOne.ctl.part = .running := ⟨rfl, by rw [kept]; exact running⟩
  exact (if_pos now).trans (congrArg State.askSweep kept)

theorem runOne_scan (s : State) : s.runOne.scan = s.scan := by
  unfold State.runOne
  split <;> rfl

theorem runOne_running (still : s.ctl.part ≠ .running) : s.runOne.ctl.part ≠ .running := by
  unfold State.runOne
  split
  · exact nofun
  · exact still

/-- The state with the sweep timer reloaded. -/
def State.reloaded (s : State) : State := { s with scan := { s.scan with timer := timerStart s.scan.interval } }

/-- Two states that are equal before the port's reaction are equal after it. -/
theorem settled {t u : State} (same : t = u) :
    (.next t.settlePort : Host.Outcome State Fault Refusal) = .next u.settlePort := by rw [same]

theorem exec_sweepTimerExpiry (running : s.ctl.part = .running) (due : timerDue s.scan.timer = true) :
    exec .sweepTimerExpiry s = .next s.reloaded.askSweep.settlePort :=
  if_pos ⟨running, due⟩

/-- Settles O7: an asked sweep starts or waits, at the write of SWEEP_NOW, at the timer and once it may. -/
theorem sweepStarts : Obligations.SweepStarts := by
  refine ⟨fun ie s answers => ⟨fun running pending position clear => ?_, fun running busy => ?_, fun still => ?_⟩,
    fun s running => ⟨fun due pending position clear => ?_, fun due busy => ?_, fun pending position clear => ?_⟩⟩
  · rw [exec_sweepNow true ie answers, controlWrite_sweepNow_running ie running,
      askSweep_starts (s := s.enabled ie) pending position running clear]
    rfl
  · rw [exec_sweepNow true ie answers, controlWrite_sweepNow_running ie running, askSweep_waits (s := s.enabled ie) busy]
    rfl
  · refine ⟨_, exec_sweepNow true ie answers, ?_⟩
    rw [controlWrite_still true ie true (runOne_running (s := s.enabled ie) still)]
    exact runOne_scan (s.enabled ie)
  · exact (exec_sweepTimerExpiry running due).trans (settled (askSweep_starts (s := s.reloaded) pending position running clear))
  · exact (exec_sweepTimerExpiry running due).trans (settled (askSweep_waits (s := s.reloaded) busy))
  · have may := sweepMayStart_iff.2 ⟨pending, position, running, clear⟩
    exact (if_pos may).trans (settled (startSweep_starts may))

/-! ## NOTICE (R189) -/

theorem noticeWord_swap (source causes : Nat) :
    noticeWord source causes = BitVec.ofNat 32 (causes + 2 ^ 16 * source) := by
  have same : source * 65536 + causes = causes + 2 ^ 16 * source := by omega
  rw [noticeWord, same]

theorem firstLine_some {u : Notices} {n : LineNo} (pending : u.line.get n ≠ 0)
    (before : ∀ m : LineNo, m < n → u.line.get m = 0) : u.firstLine = some n := by
  rw [Notices.firstLine, List.find?_eq_some_iff_getElem]
  refine ⟨bne_iff_ne.2 pending, n.val, by simp, by simp, fun j lt => ?_⟩
  have below : (⟨j, lt.trans n.isLt⟩ : LineNo) < n := lt
  simp [before _ below]

theorem firstLine_none {u : Notices} (empty : ∀ m : LineNo, u.line.get m = 0) : u.firstLine = none := by
  rw [Notices.firstLine, List.find?_eq_none]
  intro m _
  rw [empty m]
  decide

theorem take_of_line {u : Notices} {n : LineNo} (first : u.firstLine = some n) :
    u.take = (noticeWord n.val (u.line.get n).toNat, { u with line := u.line.set n.val 0 n.isLt }) := by
  unfold Notices.take
  rw [first]

theorem take_of_station {u : Notices} (first : u.firstLine = none) (pending : u.station ≠ 0) :
    u.take = (noticeWord 32 u.station.toNat, { u with station := 0 }) := by
  unfold Notices.take
  rw [first]
  exact if_pos (bne_iff_ne.2 pending)

theorem take_of_empty {u : Notices} (first : u.firstLine = none) (empty : u.station = 0) :
    u.take = (noticeWord 63 0, u) := by
  unfold Notices.take
  rw [first, empty]
  rfl

theorem exec_noticeRead (lane : Lane) (answers : s.ctl.inReset = false) : exec (.noticeRead lane) s =
    .next { s with notices := { s.notices.take.2 with lastRead := laneOf lane s.notices.take.1 } } :=
  if_pos (answers_of_notInReset answers)

/-- The part of a word that a lane gives, as a number. -/
theorem laneOf_toNat (lane : Lane) (w : Word) : (laneOf lane w).toNat = match lane with
    | .word => w.toNat
    | .half upper => if upper then w.toNat / 2 ^ 16 else w.toNat % 2 ^ 16
    | .byte k => w.toNat / 2 ^ (8 * k.val) % 2 ^ 8 := by
  have low : ∀ (v : Word) (m : Nat), m ≤ 32 → (v &&& BitVec.ofNat 32 (2 ^ m - 1)).toNat = v.toNat % 2 ^ m := fun v m le => by
    have fits : 2 ^ m - 1 < 2 ^ 32 := by
      have := Nat.pow_le_pow_right (n := 2) (by decide) le
      have := Nat.two_pow_pos m
      omega
    rw [BitVec.toNat_and, BitVec.toNat_ofNat, Nat.mod_eq_of_lt fits, Nat.and_two_pow_sub_one_eq_mod]
  match lane with
  | .word => rfl
  | .half true => exact (BitVec.toNat_ushiftRight ..).trans (Nat.shiftRight_eq_div_pow ..)
  | .half false => exact low w 16 (by decide)
  | .byte k =>
    refine (low (w >>> (8 * k.val)) 8 (by decide)).trans ?_
    rw [BitVec.toNat_ushiftRight, Nat.shiftRight_eq_div_pow]

theorem vector_get_set_self {α : Type} (v : Vector α 32) (n : LineNo) (x : α) : (v.set n.val x n.isLt).get n = x :=
  Vector.getElem_set_self n.isLt

theorem vector_get_set_ne {α : Type} (v : Vector α 32) {n m : LineNo} (x : α) (apart : m ≠ n) :
    (v.set n.val x n.isLt).get m = v.get m :=
  Vector.getElem_set_ne n.isLt m.isLt fun same => apart (Fin.ext same.symm)

/-- Settles O10: the first pending source decides what a read takes, and a lane only what of it is returned. -/
theorem noticeRead : Obligations.NoticeRead := by
  refine ⟨fun s answers => ⟨fun n pending before => ?line, fun empty pending => ?station, fun empty none => ?nothing⟩,
    fun lane s answers => ⟨_, _, exec_noticeRead lane answers, exec_noticeRead .word answers,
      regRead_answered s lane 0x0C answers, rfl, rfl, laneOf_toNat lane _⟩,
    fun n cs s => vector_get_set_self ..⟩
  case line =>
    have taken := take_of_line (firstLine_some pending before)
    refine ⟨_, exec_noticeRead .word answers, ?_⟩
    rw [taken]
    exact ⟨noticeWord_swap .., vector_get_set_self .., fun m apart => vector_get_set_ne _ _ apart, rfl, rfl⟩
  case station =>
    rw [exec_noticeRead .word answers, take_of_station (firstLine_none empty) pending, noticeWord_swap]
    rfl
  case nothing =>
    rw [exec_noticeRead .word answers, take_of_empty (firstLine_none empty) none, noticeWord_swap]
    rfl

/-! ## FAULT_STATE (R182) -/

theorem exec_faultStateWrite {v : Word} (answers : s.ctl.inReset = false) (bit : v.getLsbD 0 = true)
    (flag : s.port.flag = true) : exec (.faultStateWrite v) s = .next s.clearFault.settlePort :=
  if_pos ⟨answers_of_notInReset answers, bit, flag⟩

theorem clearFault_dirty (s : State) (n : LineNo) :
    s.clearFault.reports.dirty.get n = (s.reports.dirty.get n || decide (n.val < s.linesInUse)) :=
  Vector.getElem_ofFn n.isLt

theorem clearFault_held (s : State) : s.clearFault.reports.held = s.reports.held := by
  dsimp only [State.clearFault]

theorem clearFault_scan_running (running : s.ctl.part = .running) :
    s.clearFault.scan = { s.scan with pending := true } := by
  simp [State.clearFault, running]

theorem clearFault_scan_still (still : s.ctl.part ≠ .running) : s.clearFault.scan = s.scan := by
  have no : (s.ctl.part == .running) = false := beq_eq_false_iff_ne.2 still
  simp [State.clearFault, no]

theorem flag_raiseHold (s : State) : s.raiseHold.port.flag = s.port.flag := by
  unfold State.raiseHold
  split
  · split <;> rfl
  · rfl

/-- The port's reaction leaves the fault flag. -/
theorem flag_settlePort (s : State) : s.settlePort.port.flag = s.port.flag := by
  unfold State.settlePort
  split
  · split
    · exact flag_raiseHold s.lowerHold
    · split
      next j _ => cases j <;> rfl
      · rfl
  · exact flag_raiseHold s

/-- The expiry of the sweep timer beside a fault flag that is set: the sweep waits. -/
theorem sweepTimerExpiry_faulted (running : s.ctl.part = .running) (due : timerDue s.scan.timer = true)
    (busy : s.scan.pending = true ∨ s.scan.position ≠ none ∨ s.port.flag = true) :
    exec .sweepTimerExpiry s = .next ({ s with scan := { s.scan with
      pending := true, timer := timerStart s.scan.interval } } : State).settlePort :=
  (exec_sweepTimerExpiry running due).trans (settled (askSweep_waits (s := s.reloaded) busy))

/-- Settles O11: the flag asks whether the write acts; with the sweep timer's expiry the pending bit is set by whichever
comes first. -/
theorem faultStateWrite : Obligations.FaultStateWrite := by
  refine ⟨fun v s answers => ⟨fun idle => ?_, fun bit flag => ?_⟩, fun v s answers bit flag running position due => ?_⟩
  · refine if_neg fun ⟨_, bit, flag⟩ => ?_
    exact idle.elim (fun no => nomatch no.symm.trans bit) fun no => nomatch no.symm.trans flag
  · refine ⟨s.clearFault, exec_faultStateWrite answers bit flag, rfl, rfl, rfl, rfl, clearFault_scan_running,
      clearFault_scan_still, rfl, clearFault_held s, fun n => ?_⟩
    rw [clearFault_dirty]
  · have cleared : s.clearFault.settlePort.scan = { s.scan with pending := true } :=
      (settlePort_scan _).trans (clearFault_scan_running running)
    have running' : s.clearFault.settlePort.ctl.part = .running := by
      rw [settlePort_ctl]
      exact running
    have due' : timerDue s.clearFault.settlePort.scan.timer = true := by
      rw [cleared]
      exact due
    have expired := sweepTimerExpiry_faulted running due (.inr (.inr flag))
    have after := sweepTimerExpiry_faulted running' due' (.inl (by rw [cleared]))
    refine ⟨_, _, exec_faultStateWrite answers bit flag, after, _, _, expired, exec_faultStateWrite ?_ bit ?_, ?_, ?_⟩
    · rw [settlePort_ctl]
      exact answers
    · rw [flag_settlePort]
      exact flag
    · rw [settlePort_scan, cleared]
    · rw [settlePort_scan, settlePort_scan, clearFault_scan_running (by rw [settlePort_ctl]; exact running),
        settlePort_scan, cleared]

end

/-! ## The Time Base (R159, R160) -/

theorem repeat_timerTick (k m : Nat) : Nat.repeat timerTick k (some m) = some (m - k) := by
  induction k with
  | zero => rfl
  | succ k ih =>
    rw [Nat.repeat, ih]
    exact congrArg some (Nat.sub_sub ..)

theorem timerDue_after (T k : Nat) : timerDue (Nat.repeat timerTick k (timerStart T)) = decide (T + 1 ≤ k) := by
  rw [timerStart, repeat_timerTick, timerDue, Bool.eq_iff_iff, beq_iff_eq, Option.some_inj, decide_eq_true_iff,
    Nat.sub_eq_zero_iff_le]

theorem advance_eq (ms : Word) (cycle ticks : Nat) : Clock.advance ⟨ms, cycle, ticks⟩ =
    ⟨ms + 1, (cycle + 1) % 5, ticks + cycleTicks cycle⟩ := rfl

/-- Four of the five advances of a cycle come after 29491 ticks, the last after 29492. -/
theorem four_advances (ms : Word) (ticks : Nat) :
    Nat.repeat Clock.advance 4 ⟨ms, 0, ticks⟩ = ⟨ms + 1 + 1 + 1 + 1, 4, ticks + 29491 + 29491 + 29491 + 29491⟩ := by
  simp only [Nat.repeat, advance_eq]
  rfl

theorem cycle_of_advances {c : Clock} (start : c.cycle = 0) :
    (Nat.repeat Clock.advance 5 c).ticks = c.ticks + 147456 ∧ (Nat.repeat Clock.advance 5 c).cycle = 0 ∧
    (Nat.repeat Clock.advance 4 c).ticks = c.ticks + 4 * 29491 ∧ (Nat.repeat Clock.advance 5 c).ms = c.ms + 5 := by
  obtain ⟨ms, cycle, ticks⟩ := c
  cases start
  rw [Nat.repeat, four_advances, advance_eq]
  dsimp only
  have last : cycleTicks 4 = 29492 := rfl
  exact ⟨by omega, rfl, by omega, by bv_omega⟩

/-- Settles O12: an advance maps one tick over the lines, and a timer counts down to its expiry. -/
theorem timeBaseAdvance : Obligations.TimeBaseAdvance := by
  refine ⟨fun s answers => ⟨s.advance, if_pos (answers_of_notInReset answers), rfl, rfl, fun n => ?_⟩,
    timerDue_after, fun k => ⟨rfl, rfl, rfl⟩, fun c => cycle_of_advances⟩
  dsimp only
  rw [line_advance, Line.tick, Runner.tick]
  cases (s.line n).tx <;> rfl

end Sys2Proof.Machine
end

section
/-! SUPPORT. Codes of waits and actions; events of one line as LineBecomes; the condition monitor (R22), frames (R10 to
R12), the flow hold (R17) and the transmit owner (R142 to R145). -/

namespace Sys2Proof.Machine

/-! ## Codes (R86, R87) -/

def Wait.code : Wait → Byte
  | .none => 0 | .match_ => 1 | .matchEither => 2 | .matchThen => 3 | .quiet => 4 | .count => 5 | .elapse => 6
  | .marking => 7 | .spacing => 8

def Action.code : Action → Byte
  | .none => 0 | .send => 1 | .brk => 2 | .pulse => 3 | .driveActive => 4 | .driveRest => 5 | .setRate => 6
  | .detectRate => 7 | .armTrigger => 8 | .signal => 9 | .loadCounter => 10 | .countDown => 11

theorem wait_ofCode_code (w : Wait) : Wait.ofCode w.code = some w := by cases w <;> rfl

theorem action_ofCode_code (a : Action) : Action.ofCode a.code = some a := by cases a <;> rfl

theorem wait_ofCode_iff {b : Byte} {w : Wait} : Wait.ofCode b = some w ↔ b = w.code := by
  constructor
  · intro named
    unfold Wait.ofCode at named
    split at named <;> cases named <;> exact BitVec.eq_of_toNat_eq (by assumption)
  · rintro rfl
    exact wait_ofCode_code w

theorem action_ofCode_iff {b : Byte} {a : Action} : Action.ofCode b = some a ↔ b = a.code := by
  constructor
  · intro named
    unfold Action.ofCode at named
    split at named <;> cases named <;> exact BitVec.eq_of_toNat_eq (by assumption)
  · rintro rfl
    exact action_ofCode_code a

section
variable {s t u : State} {n : LineNo} {l k : Line} {r q : Reports}

theorem wait_iff {w : Wait} : s.wait n = some w ↔ (s.step n).wait = w.code := wait_ofCode_iff

theorem action_iff {a : Action} : s.action n = some a ↔ (s.step n).action = a.code := action_ofCode_iff

/-- The step in progress is read from the store, at the block and the index that the runner holds. -/
theorem step_congr (store : t.store = s.store) (block : (t.line n).run.block = (s.line n).run.block)
    (current : (t.line n).run.current = (s.line n).run.current) : t.step n = s.step n := by
  unfold State.step State.block
  dsimp only
  rw [store, block, current]

theorem step_of_run (store : t.store = s.store) (run : (t.line n).run = (s.line n).run) : t.step n = s.step n :=
  step_congr store (by rw [run]) (by rw [run])

theorem wait_of_run (store : t.store = s.store) (run : (t.line n).run = (s.line n).run) : t.wait n = s.wait n :=
  congrArg (fun r : StepRecord => Wait.ofCode r.wait) (step_of_run store run)

theorem action_of_run (store : t.store = s.store) (run : (t.line n).run = (s.line n).run) :
    t.action n = s.action n := congrArg (fun r : StepRecord => Action.ofCode r.action) (step_of_run store run)

theorem pattern_of_run (store : t.store = s.store) (run : (t.line n).run = (s.line n).run) (i : Byte) :
    t.pattern n i = s.pattern n i := by
  unfold State.pattern State.block
  rw [store, run]

/-! ## Events of one line -/

theorem LineBecomes.line (h : LineBecomes n s t l r) : t.line n = l := h.1
theorem LineBecomes.reports (h : LineBecomes n s t l r) : t.reports = r := h.2.1
theorem LineBecomes.others (h : LineBecomes n s t l r) : OnlyLine n s t := h.2.2.1
theorem LineBecomes.shared (h : LineBecomes n s t l r) : t.shared = s.shared := h.2.2.2

theorem LineBecomes.common (h : LineBecomes n s t l r) : t.common = s.common := congrArg Shared.common h.shared
theorem LineBecomes.store (h : LineBecomes n s t l r) : t.store = s.store := congrArg Shared.store h.shared
theorem LineBecomes.port (h : LineBecomes n s t l r) : t.port = s.port := congrArg Shared.port h.shared
theorem LineBecomes.now (h : LineBecomes n s t l r) : t.now = s.now := now_of_common h.common

/-- The line and the reports, as a statement writes them. -/
theorem LineBecomes.as (h : LineBecomes n s t l r) (line : l = k) (reports : r = q) : LineBecomes n s t k q := by
  subst line reports
  exact h

theorem LineBecomes.as_line (h : LineBecomes n s t l r) (line : l = k) : LineBecomes n s t k r := h.as line rfl

theorem becomes_same (n : LineNo) (s : State) : LineBecomes n s s (s.line n) s.reports := .refl n s

theorem LineBecomes.mark (h : LineBecomes n s t l r) : LineBecomes n s (t.mark n) l { r with
    dirty := r.dirty.set n.val true n.isLt } := by
  obtain ⟨rfl, rfl, others, shared⟩ := h
  exact ⟨rfl, rfl, others, shared⟩

theorem LineBecomes.modLine (h : LineBecomes n s t l r) (f : Line → Line) :
    LineBecomes n s (t.modLine n f) (f l) r := by
  have next := becomes_modLine n t f
  rw [h.line, h.reports] at next
  exact h.trans next

/-! ## The condition monitor (R22, R117) -/

/-- The line once its condition has become c. -/
def Line.conditioned (l : Line) (c : Condition) (now : Word) : Line := { l.clearFresh with
  condition := c, conditionTime := now, lowRun := false, absentTimer := none, markTimer := none }

theorem conditioned_run (l : Line) (c : Condition) (now : Word) : (l.conditioned c now).run = l.run := rfl

/-- The wait that the condition c ends. -/
def Condition.wait : Condition → Wait
  | .marking => .marking
  | .spacing => .spacing

/-- The state as the condition has changed, before a runner that waits for it goes on. -/
def State.conditioned (s : State) (n : LineNo) (c : Condition) : State :=
  (s.modLine n fun l => l.conditioned c s.now).raise n .conditionChanged

theorem becomes_conditioned (s : State) (n : LineNo) (c : Condition) :
    LineBecomes n s (s.conditioned n c) ((s.line n).conditioned c s.now) (s.raise n .conditionChanged).reports :=
  becomes_raise n s _ _

theorem changeCondition_eq (s : State) (n : LineNo) (c : Condition) : s.changeCondition n c =
    if ((s.conditioned n c).line n).run.state = .waiting ∧ (s.conditioned n c).wait n = some c.wait then
      (s.conditioned n c).exitStep n .success else s.conditioned n c := by
  cases c <;> rfl

theorem changeCondition_iff (s : State) (n : LineNo) (c : Condition) :
    (((s.conditioned n c).line n).run.state = .waiting ∧ (s.conditioned n c).wait n = some c.wait) ↔
      (s.line n).run.state = .waiting ∧ (s.step n).wait = c.wait.code := by
  have becomes := becomes_conditioned s n c
  have run : ((s.conditioned n c).line n).run = (s.line n).run := by
    rw [becomes.line, conditioned_run]
  rw [wait_of_run becomes.store run, wait_iff, run]

/-- Settles O14: a runner that waits for the condition goes on in the event of its change. -/
theorem conditionChanges : Obligations.ConditionChanges := by
  intro n s on
  have changed : ∀ c, s.changeCondition n c = if (s.line n).run.state = .waiting ∧ (s.step n).wait = c.wait.code then
      (s.conditioned n c).exitStep n .success else s.conditioned n c := fun c =>
    (changeCondition_eq s n c).trans (if_congr (changeCondition_iff s n c) rfl rfl)
  refine ⟨fun condition low due => ⟨s.conditioned n .spacing, becomes_conditioned s n .spacing, fun awaited => ?_,
      fun other => ?_⟩,
    fun condition high due => ⟨s.conditioned n .marking, becomes_conditioned s n .marking, fun awaited => ?_,
      fun other => ?_⟩⟩
  · exact (if_pos ⟨on, condition, low, due⟩).trans (settled ((changed .spacing).trans (if_pos awaited)))
  · exact (if_pos ⟨on, condition, low, due⟩).trans (settled ((changed .spacing).trans (if_neg other)))
  · exact (if_pos ⟨on, condition, high, due⟩).trans (settled ((changed .marking).trans (if_pos awaited)))
  · exact (if_pos ⟨on, condition, high, due⟩).trans (settled ((changed .marking).trans (if_neg other)))

end

/-! ## Frames (R10 to R12) -/

/-- A sample point lies before a tick exactly where its formula says. -/
theorem lt_samplesBefore_iff {p : Nat} (t k : Nat) (positive : 1 ≤ p) :
    k < samplesBefore p t ↔ k * p + p / 2 < t := by
  unfold samplesBefore
  split
  next early => exact ⟨fun no => absurd no (Nat.not_lt_zero k), fun lt => by
    have := Nat.zero_le (k * p)
    omega⟩
  next late =>
    rw [Nat.lt_succ_iff, Nat.le_div_iff_mul_le positive]
    omega

theorem pass_samples (f : Frame) (ticks : Nat) (level : Bool) : (f.pass ticks level).samples = f.samples ++
    List.replicate (min (samplesBefore f.period (f.elapsed + ticks)) f.sampleCount - f.samples.length) level := rfl

theorem pass_keeps (f : Frame) (ticks : Nat) (level : Bool) {k : Nat} (taken : k < f.samples.length) :
    (f.pass ticks level).samples[k]? = f.samples[k]? := by
  rw [pass_samples]
  exact List.getElem?_append_left taken

/-- An edge takes exactly the sample points before its tick. -/
theorem pass_takes (f : Frame) (ticks : Nat) (level : Bool) (positive : 1 ≤ f.period) {k : Nat}
    (untaken : f.samples.length ≤ k) (within : k < f.sampleCount) : (f.pass ticks level).samples[k]? =
      if k * f.period + f.period / 2 < f.elapsed + ticks then some level else none := by
  have before := lt_samplesBefore_iff (f.elapsed + ticks) k positive
  rw [pass_samples, List.getElem?_append_right untaken, List.getElem?_replicate]
  refine if_congr ?_ rfl rfl
  rw [← before]
  omega

/-- No sample is taken twice; one that is missing is taken at the level it is read at (log 4). -/
theorem samplesNow_untaken (f : Frame) (rxd rises : Bool) {k : Nat} (untaken : f.samples.length ≤ k) :
    f.samplesNow k rxd rises = f.samples ++ List.replicate (k - f.samples.length) rxd ++ [rxd || rises] := by
  have one : k + 1 - (f.samplesTo k rxd).length = 1 := by
    simp only [Frame.samplesTo, List.length_append, List.length_replicate]
    omega
  rw [Frame.samplesNow, one]
  rfl

theorem samplesNow_taken (f : Frame) (rxd rises : Bool) {k : Nat} (taken : k < f.samples.length) :
    f.samplesNow k rxd rises = f.samples := by
  have done : f.samplesTo k rxd = f.samples := by
    rw [Frame.samplesTo, Nat.sub_eq_zero_of_le taken.le]
    exact List.append_nil _
  have none : k + 1 - f.samples.length = 0 := Nat.sub_eq_zero_of_le taken
  rw [Frame.samplesNow, done, none]
  exact List.append_nil _

/-- The samples as the start check is made. -/
theorem samplesNow_start (f : Frame) (rxd rises : Bool) :
    f.samplesNow 0 rxd rises = if f.samples = [] then [rxd || rises] else f.samples := by
  split
  next empty =>
    rw [samplesNow_untaken f rxd rises (by rw [empty]; exact Nat.le_refl 0), empty]
    rfl
  next some => exact samplesNow_taken f rxd rises (List.length_pos_of_ne_nil some)

theorem exec_startCheck {s : State} {n : LineNo} (rises : Bool) {f : Frame} (on : (s.line n).status = .on)
    (frame : (s.line n).frame = some f) (fresh : f.checked = false) : exec (.startCheck ⟨n, rises⟩) s =
      if (f.samplesNow 0 (s.line n).rxd rises).getD 0 true then .next (s.modLine n fun l => { l with frame := none })
      else .next (s.modLine n fun l => { l with frame := some { f with
        checked := true, samples := f.samplesNow 0 (s.line n).rxd rises } }) := by
  change execStartCheck ⟨n, rises⟩ s = _
  unfold execStartCheck
  dsimp only
  rw [frame]
  exact if_pos ⟨on, fresh⟩

/-- Settles O15: the start check by the frame's first sample, and the arithmetic of the sample points. -/
theorem frameTiming : Obligations.FrameTiming := by
  refine ⟨fun n rises f s on frame fresh => ?check, fun p t k positive => lt_samplesBefore_iff t k positive,
    fun f => rfl,
    fun f ticks level positive => ⟨rfl, fun k taken => pass_keeps f ticks level taken,
      fun k untaken within => pass_takes f ticks level positive untaken within⟩,
    fun f k rxd rises => ⟨samplesNow_untaken f rxd rises, samplesNow_taken f rxd rises⟩⟩
  case check =>
    have row := exec_startCheck rises on frame fresh
    rw [samplesNow_start] at row
    cases samples : f.samples with
    | nil =>
      rw [samples, if_pos rfl] at row
      dsimp only
      refine ⟨fun high => ⟨_, row.trans (if_pos high), becomes_modLine n s _⟩,
        fun low => ⟨_, row.trans (if_neg (Bool.eq_false_iff.1 low)), (becomes_modLine n s _).as_line ?_⟩⟩
      rw [if_pos rfl, low]
    | cons b rest =>
      rw [samples, if_neg (List.cons_ne_nil b rest)] at row
      dsimp only
      refine ⟨fun high => ⟨_, row.trans (if_pos high), becomes_modLine n s _⟩,
        fun low => ⟨_, row.trans (if_neg (Bool.eq_false_iff.1 low)), (becomes_modLine n s _).as_line ?_⟩⟩
      rw [if_neg (List.cons_ne_nil b rest)]

/-! ## The judgement of a frame (R11, R12) -/

theorem bitsValue_cons (b : Bool) (bs : List Bool) : bitsValue (b :: bs) = 2 * bitsValue bs + b.toNat := by
  cases b <;> rfl

/-- The first data bit is the least significant. -/
theorem bitsValue_testBit (bs : List Bool) (k : Nat) : (bitsValue bs).testBit k = bs.getD k false := by
  induction bs generalizing k with
  | nil => exact Nat.zero_testBit k
  | cons b bs ih =>
    rw [bitsValue_cons]
    cases k with
    | zero => cases b <;> simp [Nat.testBit_zero, Nat.add_mod]
    | succ k =>
      rw [Nat.testBit_succ, List.getD_cons_succ, ← ih k]
      congr 1
      have := Bool.toNat_lt b
      omega

theorem dataCount_le (f : Frame) : f.dataCount ≤ 8 := by
  unfold Frame.dataCount
  split <;> decide

/-- The judgement, on the samples taken apart. -/
theorem judge_samples (f : Frame) {data par : List Bool} (stop : Bool) (full : data.length = f.dataCount)
    (parity : par.length = f.parityCount) : f.judge (false :: data ++ par ++ [stop]) =
      if (!stop && data.all (!·)) = true then .withheld
      else if (!stop || (match f.parity with
        | .none => false
        | .even => (data ++ par).foldl xor false
        | .odd => !(data ++ par).foldl xor false)) = true then .errored (BitVec.ofNat 8 (bitsValue data))
      else .good (BitVec.ofNat 8 (bitsValue data)) := by
  have drop : (false :: data ++ par ++ [stop]).drop 1 = data ++ (par ++ [stop]) := by simp
  have drop' : (false :: data ++ par ++ [stop]).drop (1 + f.dataCount) = par ++ [stop] := by
    rw [← List.drop_drop, drop, ← full, List.drop_left]
  have last : (false :: data ++ par ++ [stop]).getD (f.sampleCount - 1) true = stop := by
    have place : f.sampleCount - 1 = (false :: data ++ par).length := by
      simp only [Frame.sampleCount, List.cons_append, List.length_cons, List.length_append, full, parity]
      omega
    rw [place, List.getD_append_right _ _ _ _ (Nat.le_refl _), Nat.sub_self]
    rfl
  unfold Frame.judge
  dsimp only
  rw [drop, drop', last, ← full, ← parity, List.take_left, List.take_left] <;> rfl

/-- Settles O16: with the samples taken apart the judgement is three tests. -/
theorem frameJudgement : Obligations.FrameJudgement := by
  intro f data par stop full parity samples odd parityBad value
  have judged : f.judge samples = if (!stop && data.all (!·)) = true then .withheld
      else if (!stop || parityBad) = true then .errored value else .good value := judge_samples f stop full parity
  have low : data.all (!·) = true ↔ ∀ b ∈ data, b = false := by simp
  refine ⟨?withheld, fun high good => ?good, fun bad => ?errored, fun k within => ?bit⟩
  case withheld =>
    rw [judged]
    split
    next both =>
      obtain ⟨stopped, all⟩ := Bool.and_eq_true_iff.1 both
      exact ⟨fun _ => ⟨by simpa using stopped, low.1 all⟩, fun _ => rfl⟩
    next other =>
      refine ⟨fun is => ?_, fun ⟨stopped, all⟩ => absurd ?_ other⟩
      · split at is <;> cases is
      · rw [stopped, low.2 all]
        rfl
  case good =>
    rw [judged, high, good]
    rfl
  case errored =>
    rw [judged]
    rcases bad with ⟨stopped, b, member, set⟩ | ⟨stopped, wrong⟩
    · have some : data.all (!·) = false := by
        rw [Bool.eq_false_iff]
        exact fun all => nomatch (low.1 all b member).symm.trans set
      rw [stopped, some]
      rfl
    · rw [stopped, wrong]
      rfl
  case bit =>
    have small : k < 8 := lt_of_lt_of_le within (full.trans_le (dataCount_le f))
    change (BitVec.ofNat 8 (bitsValue data)).getLsbD k = _
    rw [BitVec.getLsbD_ofNat, bitsValue_testBit]
    simp [small]

end Sys2Proof.Machine
end

section
/-! SUPPORT. The flow hold (R17) and the transmit owner (R142 to R145). -/

namespace Sys2Proof.Machine

/-! ## The flow hold (R17) -/

/-- What a good character makes of a line's flow hold. -/
def Line.flowTakes (l : Line) (c : Byte) : Line :=
  if l.settings.flow = .xonxoff then
    if c = 0x13 then l.setHold else if c = 0x11 then l.clearHold else l
  else l

theorem flowTakes_xoff {l : Line} (flow : l.settings.flow = .xonxoff) : l.flowTakes 0x13 = l.setHold := if_pos flow

theorem flowTakes_xon {l : Line} (flow : l.settings.flow = .xonxoff) : l.flowTakes 0x11 = l.clearHold := if_pos flow

theorem setHold_held {l : Line} (held : l.flowHeld = true) : l.setHold = l := if_pos held

theorem clearHold_free {l : Line} (free : l.flowHeld = false) : l.clearHold = l := by
  unfold Line.clearHold
  rw [free]
  rfl

theorem setHold_free {l : Line} (free : l.flowHeld = false) : l.setHold = { l with
    flowHeld := true
    holdTimer := if l.settings.holdLimit = 0 then none else timerStart l.settings.holdLimit
    tx := match l.tx with
      | .idle => .held
      | .gap _ => .held
      | x => x } := by
  unfold Line.setHold
  rw [free]
  rfl

theorem clearHold_held {l : Line} (held : l.flowHeld = true) : l.clearHold = { l with
    flowHeld := false
    holdTimer := none
    tx := match l.tx with
      | .held => .idle
      | x => x } := by
  unfold Line.clearHold
  rw [held]
  rfl

section
variable {s : State} {n : LineNo}

theorem becomes_flowCharacter (s : State) (n : LineNo) (c : Byte) :
    LineBecomes n s (s.flowCharacter n c) ((s.line n).flowTakes c)
      (s.markIf n (((s.line n).flowTakes c).flowHeld != (s.line n).flowHeld)).reports :=
  becomes_markIf n s (fun _ => (s.line n).flowTakes c) _

theorem flowHold_cases (flow : (s.line n).settings.flow = .xonxoff) :
    ((s.line n).flowHeld = false → LineBecomes n s (s.flowCharacter n 0x13) (s.line n).setHold (s.mark n).reports) ∧
    ((s.line n).flowHeld = true → LineBecomes n s (s.flowCharacter n 0x11) (s.line n).clearHold (s.mark n).reports) ∧
    ((s.line n).flowHeld = true → LineBecomes n s (s.flowCharacter n 0x13) (s.line n) s.reports) ∧
    ((s.line n).flowHeld = false → LineBecomes n s (s.flowCharacter n 0x11) (s.line n) s.reports) := by
  have xoff := becomes_flowCharacter s n 0x13
  have xon := becomes_flowCharacter s n 0x11
  rw [flowTakes_xoff flow] at xoff
  rw [flowTakes_xon flow] at xon
  refine ⟨fun free => xoff.as rfl ?_, fun held => xon.as rfl ?_, fun held => ?_, fun free => ?_⟩
  · rw [setHold_free free, free]
    rfl
  · rw [clearHold_held held, held]
    rfl
  · rw [setHold_held held] at xoff
    exact xoff.as rfl (by rw [held]; rfl)
  · rw [clearHold_free free] at xon
    exact xon.as rfl (by rw [free]; rfl)

/-! ## The transmit owner (R142 to R145) -/

theorem setOwner_sending {l : Line} (sending : l.tx.isSending = true) (o : Owner) :
    l.setOwner o = { l with owner := o } := if_pos sending

theorem setOwner_quiet {l : Line} (quiet : l.tx.isSending = false) (o : Owner) :
    l.setOwner o = { l with
      owner := o, ownerInForce := o
      staging := if l.ownerInForce.isOperators && !o.isOperators then [] else l.staging } :=
  if_neg (Bool.eq_false_iff.1 quiet)

theorem isOperators_iff (o : Owner) : o.isOperators = true ↔ o = .operator ∨ o = .lent := by
  cases o <;> decide

theorem notOperators_iff (o : Owner) : o.isOperators = false ↔ o = .free ∨ o = .script := by
  cases o <;> decide

theorem setOwner_tx (l : Line) (o : Owner) : (l.setOwner o).tx = l.tx := by
  cases sending : l.tx.isSending
  · rw [setOwner_quiet sending]
  · rw [setOwner_sending sending]

theorem setOwner_run (l : Line) (o : Owner) : (l.setOwner o).run = l.run := by
  cases sending : l.tx.isSending
  · rw [setOwner_quiet sending]
  · rw [setOwner_sending sending]

theorem setOwner_changes (l : Line) (o : Owner) :
    ((l.setOwner o).owner != l.owner || (l.setOwner o).ownerInForce != l.ownerInForce) = true ↔
      ¬(l.owner = o ∧ (l.tx.isSending = true ∨ l.ownerInForce = o)) := by
  have changed : ∀ a b : Owner, (a != b) = true ↔ ¬b = a := fun a b => by
    rw [bne_iff_ne]
    exact ⟨fun h e => h e.symm, fun h e => h e.symm⟩
  rw [Bool.or_eq_true, changed, changed, ← not_and_or]
  cases sending : l.tx.isSending
  · rw [setOwner_quiet sending]
    simp
  · rw [setOwner_sending sending]
    simp

/-- The state as Owner has its new value, before a QUEUED runner starts. -/
def State.owned (s : State) (n : LineNo) (o : Owner) : State :=
  (s.modLine n fun _ => (s.line n).setOwner o).markIf n
    (((s.line n).setOwner o).owner != (s.line n).owner || ((s.line n).setOwner o).ownerInForce != (s.line n).ownerInForce)

theorem becomes_owned (s : State) (n : LineNo) (o : Owner) : LineBecomes n s (s.owned n o) ((s.line n).setOwner o)
    (if (s.line n).owner = o ∧ ((s.line n).tx.isSending = true ∨ (s.line n).ownerInForce = o) then s
      else s.mark n).reports := by
  refine (becomes_markIf n s (fun _ => (s.line n).setOwner o) _).as rfl (congrArg State.reports ?_)
  by_cases same : (s.line n).owner = o ∧ ((s.line n).tx.isSending = true ∨ (s.line n).ownerInForce = o)
  · have unchanged := Bool.eq_false_iff.2 fun changed => (setOwner_changes (s.line n) o).1 changed same
    rw [if_pos same, unchanged]
    rfl
  · rw [if_neg same, (setOwner_changes (s.line n) o).2 same]
    rfl

theorem giveOwner_eq (s : State) (n : LineNo) (o : Owner) : s.giveOwner n o =
    if ((s.line n).setOwner o).tx.isSending then s.owned n o else (s.owned n o).startIfQueued n := rfl

theorem giveOwner_sending (o : Owner) (sending : (s.line n).tx.isSending = true) :
    s.giveOwner n o = s.owned n o := by
  rw [giveOwner_eq, setOwner_tx]
  exact if_pos sending

theorem giveOwner_quiet (o : Owner) (quiet : (s.line n).tx.isSending = false) : s.giveOwner n o =
    if (s.line n).run.state = .queued ∧ o = .script then follow n (s.owned n o, some (s.line n).run.entry)
    else s.owned n o := by
  have line := (becomes_owned s n o).line
  rw [giveOwner_eq, setOwner_tx, quiet]
  change (s.owned n o).startIfQueued n = _
  unfold State.startIfQueued
  dsimp only
  rw [line, setOwner_run, setOwner_quiet quiet]

theorem giveOwner_starts (quiet : (s.line n).tx.isSending = false) (queued : (s.line n).run.state = .queued) :
    s.giveOwner n .script = follow n (s.owned n .script, some (s.line n).run.entry) := by
  rw [giveOwner_quiet .script quiet, if_pos ⟨queued, rfl⟩]

theorem giveOwner_only {o : Owner}
    (stays : (s.line n).tx.isSending = true ∨ (s.line n).run.state ≠ .queued ∨ o ≠ .script) :
    s.giveOwner n o = s.owned n o := by
  cases sending : (s.line n).tx.isSending
  · rw [giveOwner_quiet o sending, if_neg]
    rintro ⟨queued, script⟩
    rcases stays with is | is | is
    · exact nomatch sending.symm.trans is
    · exact is queued
    · exact is script
  · exact giveOwner_sending o sending

/-- Settles O18: the hold and the owner as functions of a line, and the owner's change as an event of the line. -/
theorem flowHoldAndOwner : Obligations.FlowHoldAndOwner := by
  refine ⟨fun n s flow => ?hold, ⟨fun r => ?claim, fun l o => ?owner⟩, fun n o s => ?gives⟩
  case hold =>
    obtain ⟨xoff, xon, again, clear⟩ := flowHold_cases flow
    exact ⟨fun free => (xoff free).as_line (setHold_free free), fun held => (xon held).as_line (clearHold_held held),
      again, clear⟩
  case claim =>
    refine ⟨rfl, rfl, rfl, ?_, rfl, rfl, rfl, rfl⟩
    match r with
    | .idle => rfl
    | .queued => rfl
    | .acting => rfl
    | .waiting => rfl
    | .paused .acting => rfl
    | .paused .waiting => rfl
  case owner =>
    refine ⟨fun sending => setOwner_sending sending o, fun quiet => ?_⟩
    rw [setOwner_quiet quiet]
    refine ⟨rfl, rfl, fun was is => ?_, fun is => ?_⟩
    · rw [(isOperators_iff _).2 was, (notOperators_iff o).2 is]
      rfl
    · rw [(isOperators_iff o).2 is, Bool.not_true, Bool.and_false]
      rfl
  case gives =>
    refine ⟨s.owned n o, becomes_owned s n o, ?_, giveOwner_only⟩
    rintro quiet queued rfl
    exact giveOwner_starts quiet queued

end

end Sys2Proof.Machine
end

section
/-! SUPPORT. Edges of RXD (R10, R22, R23, R30, R31): what the measurement, the receiver and the monitor make of one. -/

namespace Sys2Proof.Machine

/-! ## An edge and the measurement (R30, R31) -/

theorem onEdge_waiting {m : Measurement} (edge : m.edge = true) (ticks : Nat) (falling : Bool) :
    m.onEdge ticks falling = ⟨m.begun, false, m.ticks + ticks⟩ := if_pos edge

theorem onEdge_begun {m : Measurement} (edge : m.edge = false) (begun : m.begun = true) (ticks : Nat)
    (falling : Bool) : m.onEdge ticks falling = ⟨true, true, m.ticks + ticks⟩ := by
  unfold Measurement.onEdge
  rw [edge, begun]
  rfl

theorem onEdge_firstFall {m : Measurement} (edge : m.edge = false) (begun : m.begun = false) (ticks : Nat) :
    m.onEdge ticks true = ⟨false, true, 0⟩ := by
  unfold Measurement.onEdge
  rw [edge, begun]
  rfl

theorem onEdge_earlyRise {m : Measurement} (edge : m.edge = false) (begun : m.begun = false) (ticks : Nat) :
    m.onEdge ticks false = m := by
  unfold Measurement.onEdge
  rw [edge, begun]
  rfl

/-- The three ways a judged edge stands (R30 to R32). -/
theorem judgeEdge_begins {d : Detection} (begun : d.meas.begun = false) :
    d.judgeEdge = { d with meas := ⟨true, false, 0⟩ } := by
  unfold Detection.judgeEdge
  rw [begun]
  rfl

theorem judgeEdge_glitch {d : Detection} (begun : d.meas.begun = true) (short : d.meas.ticks < 16) :
    d.judgeEdge = { d with meas := ⟨true, false, d.meas.ticks⟩ } := by
  have goesOn : ({ d with meas := { d.meas with edge := false } } : Detection) =
      { d with meas := ⟨true, false, d.meas.ticks⟩ } :=
    congrArg (fun b => ({ d with meas := ⟨b, false, d.meas.ticks⟩ } : Detection)) begun
  unfold Detection.judgeEdge
  rw [begun]
  exact (if_pos short).trans goesOn

theorem judgeEdge_tooLong {d : Detection} (begun : d.meas.begun = true) (long : 131072 ≤ d.meas.ticks) :
    d.judgeEdge = { d with meas := ⟨true, false, 0⟩ } := by
  have notShort : ¬d.meas.ticks < 16 := by omega
  unfold Detection.judgeEdge
  rw [begun]
  exact (if_neg notShort).trans (if_pos long)

theorem judgeEdge_counts {d : Detection} (begun : d.meas.begun = true) (least : 16 ≤ d.meas.ticks)
    (most : d.meas.ticks ≤ 131071) : d.judgeEdge = { d with
      meas := ⟨true, false, 0⟩
      counted := d.counted + 1
      least := some (match d.least with | none => d.meas.ticks | some m => min m d.meas.ticks) } := by
  have notShort : ¬d.meas.ticks < 16 := by omega
  have notLong : ¬131072 ≤ d.meas.ticks := by omega
  unfold Detection.judgeEdge
  rw [begun]
  exact (if_neg notShort).trans (if_neg notLong)

/-- A judged edge counts at most one run, and leaves the measurement begun with no edge waiting. -/
theorem judgeEdge_result (d : Detection) : d.judgeEdge.counted ≤ d.counted + 1 ∧ d.judgeEdge.meas.edge = false ∧
    d.judgeEdge.meas.begun = true := by
  cases begun : d.meas.begun
  · rw [judgeEdge_begins begun]
    exact ⟨Nat.le_succ _, rfl, rfl⟩
  · rcases Nat.lt_or_ge d.meas.ticks 16 with short | least
    · rw [judgeEdge_glitch begun short]
      exact ⟨Nat.le_succ _, rfl, rfl⟩
    · rcases Nat.lt_or_ge d.meas.ticks 131072 with most | long
      · rw [judgeEdge_counts begun least (Nat.lt_succ_iff.1 most)]
        exact ⟨Nat.le_refl _, rfl, rfl⟩
      · rw [judgeEdge_tooLong begun long]
        exact ⟨Nat.le_succ _, rfl, rfl⟩

section
variable {s t : State} {n : LineNo}

/-- Below 24 counted runs the measurement goes on (R32). -/
theorem judgeEdge_goesOn (below : (s.line n).det.judgeEdge.counted < 24) :
    s.judgeEdge n = s.modDet n Detection.judgeEdge := by
  unfold State.judgeEdge
  dsimp only
  rw [line_modDet_self]
  dsimp only
  split
  · exact if_neg (Nat.not_le.2 below)
  · rfl

theorem measureEdge_idle (idle : (s.line n).det.state ≠ .measuring) (ticks : Nat) (falling : Bool) :
    s.measureEdge n ticks falling = s := if_neg idle

/-- The edge reaches the measurement of v, if the line is still MEASURING there. -/
def State.edgeTaken (v : State) (n : LineNo) (ticks : Nat) (falling : Bool) : State :=
  if (v.line n).det.state = .measuring then v.modDet n fun e => { e with meas := e.meas.onEdge ticks falling } else v

theorem measureEdge_judged (measuring : (s.line n).det.state = .measuring) (edge : (s.line n).det.meas.edge = true)
    {ticks : Nat} (late : 16 ≤ ticks) (falling : Bool) :
    s.measureEdge n ticks falling = (s.judgeEdge n).edgeTaken n ticks falling := by
  have both : ((s.line n).det.meas.edge && decide (16 ≤ ticks)) = true := by rw [edge, decide_eq_true late]; rfl
  unfold State.measureEdge
  dsimp only
  rw [if_pos measuring, if_pos both]
  rfl

theorem measureEdge_direct (measuring : (s.line n).det.state = .measuring) {ticks : Nat}
    (first : (s.line n).det.meas.edge = true → ticks < 16) (falling : Bool) :
    s.measureEdge n ticks falling = s.modDet n fun e => { e with meas := e.meas.onEdge ticks falling } := by
  have no : ¬((s.line n).det.meas.edge && decide (16 ≤ ticks)) = true := fun both => by
    obtain ⟨edge, late⟩ := Bool.and_eq_true_iff.1 both
    exact absurd (first edge) (Nat.not_lt.2 (of_decide_eq_true late))
  unfold State.measureEdge
  dsimp only
  rw [if_pos measuring, if_neg no, if_pos measuring]

theorem becomes_modDet (s : State) (n : LineNo) (f : Detection → Detection) :
    LineBecomes n s (s.modDet n f) { s.line n with det := f (s.line n).det } s.reports := becomes_modLine n s _

/-- What the measurement makes of an edge, in the cases in which nothing but its record changes. -/
theorem becomes_measureEdge (s : State) (n : LineNo) (ticks : Nat) (falling : Bool) :
    let d := (s.line n).det
    let m := d.meas
    let becomes (e : Detection) : Prop :=
      LineBecomes n s (s.measureEdge n ticks falling) { s.line n with det := e } s.reports
    (d.state ≠ .measuring → becomes d) ∧
    (d.state = .measuring →
      (m.edge = false → becomes { d with meas := m.onEdge ticks falling }) ∧
      (m.edge = true → ticks < 16 → becomes { d with meas := ⟨m.begun, false, m.ticks + ticks⟩ }) ∧
      (m.edge = true → 16 ≤ ticks → d.counted < 23 →
        becomes { d.judgeEdge with meas := ⟨true, true, d.judgeEdge.meas.ticks + ticks⟩ })) := by
  refine ⟨fun idle => ?_, fun measuring => ⟨fun edge => ?_, fun edge early => ?_, fun edge late below => ?_⟩⟩
  · rw [measureEdge_idle idle]
    exact becomes_same n s
  · rw [measureEdge_direct measuring fun some => nomatch edge.symm.trans some]
    exact becomes_modDet ..
  · rw [measureEdge_direct measuring fun _ => early]
    refine (becomes_modDet s n fun e => { e with meas := e.meas.onEdge ticks falling }).as_line ?_
    dsimp only
    rw [onEdge_waiting edge]
  · obtain ⟨counts, quiet, begun⟩ := judgeEdge_result (s.line n).det
    have judged := becomes_modDet s n Detection.judgeEdge
    rw [← judgeEdge_goesOn (by omega)] at judged
    have still : ((s.judgeEdge n).line n).det.state = .measuring := by
      rw [judged.line]
      exact (judgeEdge_state _).trans measuring
    rw [measureEdge_judged measuring edge late, State.edgeTaken, if_pos still]
    refine (judged.modLine fun l => { l with det := { l.det with meas := l.det.meas.onEdge ticks falling } }).as_line ?_
    dsimp only
    rw [onEdge_begun quiet begun]

/-! ## An edge and the receiver and monitor (R10, R22, R23) -/

/-- The frame of a line after a fall. -/
theorem fall_marking {l : Line} (ticks : Nat) (marking : l.condition = .marking) : l.fall ticks = { l with
    rxd := false, frame := some (match l.frame with | some f => f.pass ticks true | none => l.newFrame)
    lowRun := true, runWithheld := false, absentTimer := timerStart l.settings.absentTime } := by
  unfold Line.fall
  dsimp only
  rw [marking] <;> rfl

theorem fall_spacing {l : Line} (ticks : Nat) (spacing : l.condition = .spacing) : l.fall ticks = { l with
    rxd := false, frame := some (match l.frame with | some f => f.pass ticks true | none => l.newFrame)
    markTimer := none } := by
  unfold Line.fall
  dsimp only
  rw [spacing] <;> rfl

theorem rise_marking {l : Line} (ticks : Nat) (marking : l.condition = .marking) : l.rise ticks = { l with
    rxd := true, frame := l.frame.map fun f => { Frame.pass f ticks false with unbroken := false }
    lowRun := false, runWithheld := false, absentTimer := none } := by
  unfold Line.rise
  dsimp only
  rw [marking]

theorem rise_spacing {l : Line} (ticks : Nat) (spacing : l.condition = .spacing) : l.rise ticks = { l with
    rxd := true, frame := l.frame.map fun f => { Frame.pass f ticks false with unbroken := false }
    markTimer := timerStart 10 } := by
  unfold Line.rise
  dsimp only
  rw [spacing]

theorem wasBreak_spacing {l : Line} (ticks : Nat) (spacing : l.condition = .spacing) : l.wasBreak ticks = false := by
  rw [Line.wasBreak, spacing]
  rfl

theorem wasBreak_marking_iff {l : Line} (ticks : Nat) (marking : l.condition = .marking) :
    l.wasBreak ticks = true ↔ l.lowRun = true ∧ (l.frameTicks ≤ ticks ∨ l.runWithheld = true) := by
  rw [Line.wasBreak, marking]
  simp

theorem wasBreak_det (l : Line) (d : Detection) (ticks : Nat) :
    ({ l with det := d } : Line).wasBreak ticks = l.wasBreak ticks := rfl

theorem exec_rxdFall_on (high : (s.line n).rxd = true) (on : (s.line n).status = .on) (ticks : Nat) :
    exec (.rxdFall n ticks) s =
      .next ((s.measureEdge n ticks true).modLine n fun l => l.fall ticks).settlePort := by
  change execRxdFall n ticks s = _
  unfold execRxdFall
  dsimp only
  rw [high, on]
  rfl

theorem exec_rxdFall_off (high : (s.line n).rxd = true) (off : (s.line n).status ≠ .on) (ticks : Nat) :
    exec (.rxdFall n ticks) s = .next (s.modLine n fun l => { l with rxd := false }) := by
  change execRxdFall n ticks s = _
  unfold execRxdFall
  dsimp only
  rw [high]
  exact if_pos off

/-- The state as an edge has ended a low run, judged for a break. -/
def State.risen (s : State) (n : LineNo) (ticks : Nat) : State :=
  if (s.line n).wasBreak ticks then (s.modLine n fun l => l.rise ticks).breakSeen n
  else s.modLine n fun l => l.rise ticks

theorem exec_rxdRise_on (low : (s.line n).rxd = false) (on : (s.line n).status = .on) (ticks : Nat) :
    exec (.rxdRise n ticks) s = .next ((s.measureEdge n ticks false).risen n ticks).settlePort := by
  change execRxdRise n ticks s = _
  unfold execRxdRise
  dsimp only
  rw [low, on]
  rfl

theorem exec_rxdRise_off (low : (s.line n).rxd = false) (off : (s.line n).status ≠ .on) (ticks : Nat) :
    exec (.rxdRise n ticks) s = .next (s.modLine n fun l => { l with rxd := true }) := by
  change execRxdRise n ticks s = _
  unfold execRxdRise
  dsimp only
  rw [low]
  exact if_pos off

/-- The line once a break has been seen (R23). -/
def Line.broken (l : Line) (now : Word) : Line := { l.clearFresh with breakTime := now }

theorem becomes_broken {l : Line} (h : LineBecomes n s t l s.reports) :
    LineBecomes n s (t.breakSeen n) (l.broken s.now) (s.raise n .breakSeen).reports := by
  have next : LineBecomes n t (t.breakSeen n) ((t.line n).broken t.now) (t.raise n .breakSeen).reports :=
    becomes_raise n t _ _
  refine (h.trans next).as (by rw [h.line, h.now]) ?_
  unfold State.raise
  rw [h.reports]

theorem becomes_risen {e : Detection} (ticks : Nat)
    (h : LineBecomes n s t { s.line n with det := e } s.reports) :
    ((s.line n).wasBreak ticks = false → LineBecomes n s (t.risen n ticks)
      (({ s.line n with det := e } : Line).rise ticks) s.reports) ∧
    ((s.line n).wasBreak ticks = true → LineBecomes n s (t.risen n ticks)
      ((({ s.line n with det := e } : Line).rise ticks).broken s.now) (s.raise n .breakSeen).reports) := by
  have same : (t.line n).wasBreak ticks = (s.line n).wasBreak ticks := by rw [h.line, wasBreak_det]
  have rose := h.modLine fun l => l.rise ticks
  unfold State.risen
  rw [same]
  refine ⟨fun no => ?_, fun yes => ?_⟩
  · rw [no]
    exact rose
  · rw [yes]
    exact becomes_broken rose

/-- The frame that a fall leaves, as R10 and R11 write it. -/
theorem fall_frame (l : Line) (ticks : Nat) :
    (match l.frame with | some f => f.pass ticks true | none => l.newFrame) = match l.frame with
      | some f => { f with
          elapsed := f.elapsed + ticks
          samples := f.samples ++ List.replicate
            (min (samplesBefore f.period (f.elapsed + ticks)) f.sampleCount - f.samples.length) true }
      | none => ⟨l.period, l.settings.dataBits, l.settings.parity, 0, false, [], true, true⟩ := by
  cases l.frame <;> rfl

theorem rise_frame (o : Option Frame) (ticks : Nat) :
    (o.map fun f => { Frame.pass f ticks false with unbroken := false }) = match o with
      | some f => some { f with
          elapsed := f.elapsed + ticks
          samples := f.samples ++ List.replicate
            (min (samplesBefore f.period (f.elapsed + ticks)) f.sampleCount - f.samples.length) false
          unbroken := false }
      | none => none := by
  cases o <;> rfl

theorem rxdFall_row (ticks : Nat) (high : (s.line n).rxd = true) (on : (s.line n).status = .on) {e : Detection}
    (measured : LineBecomes n s (s.measureEdge n ticks true) { s.line n with det := e } s.reports) :
    ∃ u : State, exec (.rxdFall n ticks) s = .next u.settlePort ∧
      LineBecomes n s u (({ s.line n with det := e } : Line).fall ticks) s.reports :=
  ⟨_, exec_rxdFall_on high on ticks, measured.modLine fun l => l.fall ticks⟩

end

/-- The fall's half of O13. -/
theorem rxdFall_becomes (n : LineNo) (ticks : Nat) (s : State) (high : (s.line n).rxd = true)
    (on : (s.line n).status = .on) {e : Detection}
    (measured : LineBecomes n s (s.measureEdge n ticks true) { s.line n with det := e } s.reports) :
    let l := s.line n
    let frame : Frame := match l.frame with
      | some f => { f with
          elapsed := f.elapsed + ticks
          samples := f.samples ++ List.replicate
            (min (samplesBefore f.period (f.elapsed + ticks)) f.sampleCount - f.samples.length) true }
      | none => ⟨l.period, l.settings.dataBits, l.settings.parity, 0, false, [], true, true⟩
    ∃ u : State, exec (.rxdFall n ticks) s = .next u.settlePort ∧
      (l.condition = .marking → LineBecomes n s u { l with
        rxd := false, frame := some frame, lowRun := true, runWithheld := false
        absentTimer := timerStart l.settings.absentTime, det := e } s.reports) ∧
      (l.condition = .spacing → LineBecomes n s u { l with
        rxd := false, frame := some frame, markTimer := none, det := e } s.reports) := by
  obtain ⟨u, row, fell⟩ := rxdFall_row ticks high on measured
  have frame := fall_frame (s.line n) ticks
  generalize s.line n = l at fell frame
  refine ⟨u, row, fun marking => fell.as_line ?_, fun spacing => fell.as_line ?_⟩
  · rw [← frame]
    exact fall_marking (l := { l with det := e }) ticks marking
  · rw [← frame]
    exact fall_spacing (l := { l with det := e }) ticks spacing

/-- The rise's half of O13. -/
theorem rxdRise_becomes (n : LineNo) (ticks : Nat) (s : State) (low : (s.line n).rxd = false)
    (on : (s.line n).status = .on) {e : Detection}
    (measured : LineBecomes n s (s.measureEdge n ticks false) { s.line n with det := e } s.reports) :
    let l := s.line n
    let frame : Option Frame := match l.frame with
      | some f => some { f with
          elapsed := f.elapsed + ticks
          samples := f.samples ++ List.replicate
            (min (samplesBefore f.period (f.elapsed + ticks)) f.sampleCount - f.samples.length) false
          unbroken := false }
      | none => none
    ∃ u : State, exec (.rxdRise n ticks) s = .next u.settlePort ∧
      (l.condition = .spacing → LineBecomes n s u { l with
        rxd := true, frame := frame, markTimer := timerStart 10, det := e } s.reports) ∧
      (l.condition = .marking → l.lowRun = true → (l.frameTicks ≤ ticks ∨ l.runWithheld = true) →
        LineBecomes n s u { l with
          rxd := true, frame := frame, lowRun := false, runWithheld := false, absentTimer := none
          breakTime := s.clock.ms, scriptFresh := 0, trigFresh := 0, det := e } (s.raise n .breakSeen).reports) ∧
      (l.condition = .marking → (l.lowRun = false ∨ ticks < l.frameTicks ∧ l.runWithheld = false) →
        LineBecomes n s u { l with
          rxd := true, frame := frame, lowRun := false, runWithheld := false, absentTimer := none, det := e }
          s.reports) := by
  obtain ⟨kept, broke⟩ := becomes_risen ticks measured
  have frame := rise_frame (s.line n).frame ticks
  have now : s.now = s.clock.ms := rfl
  refine ⟨_, exec_rxdRise_on low on ticks, ?_⟩
  generalize s.line n = l at kept broke frame
  refine ⟨fun spacing => (kept (wasBreak_spacing ticks spacing)).as_line ?_,
    fun marking began long => (broke ((wasBreak_marking_iff ticks marking).2 ⟨began, long⟩)).as_line ?_,
    fun marking short => (kept (Bool.eq_false_iff.2 fun was => ?_)).as_line ?_⟩
  · rw [← frame]
    exact rise_spacing (l := { l with det := e }) ticks spacing
  · rw [← frame, rise_marking (l := { l with det := e }) ticks marking, now]
    rfl
  · obtain ⟨began, long⟩ := (wasBreak_marking_iff ticks marking).1 was
    rcases short with none | ⟨early, counted⟩
    · exact nomatch none.symm.trans began
    · exact long.elim (Nat.not_le.2 early) fun held => nomatch counted.symm.trans held
  · rw [← frame]
    exact rise_marking (l := { l with det := e }) ticks marking

/-- Settles O13: what the measurement makes of the edge, case by case, and then the receiver and the monitor. -/
theorem rxdEdges : Obligations.RxdEdges := by
  refine ⟨fun n ticks s high => ?fall, fun n ticks s low => ?rise⟩
  case fall =>
    obtain ⟨idle, measured⟩ := becomes_measureEdge s n ticks true
    refine ⟨fun off => ⟨_, exec_rxdFall_off high off ticks, becomes_modLine n s _⟩,
      fun on other => rxdFall_becomes n ticks s high on (idle other), fun on measuring => ?_⟩
    obtain ⟨direct, early, late⟩ := measured measuring
    refine ⟨fun edge begun => rxdFall_becomes n ticks s high on ?_,
      fun edge begun => rxdFall_becomes n ticks s high on ?_,
      fun edge soon => rxdFall_becomes n ticks s high on (early edge soon),
      fun edge after below => rxdFall_becomes n ticks s high on (late edge after below), fun edge after => ?_⟩
    · rw [← onEdge_firstFall edge begun ticks]
      exact direct edge
    · rw [← onEdge_begun edge begun ticks true]
      exact direct edge
    · rw [exec_rxdFall_on high on ticks, measureEdge_judged measuring edge after]
      rfl
  case rise =>
    obtain ⟨idle, measured⟩ := becomes_measureEdge s n ticks false
    refine ⟨fun off => ⟨_, exec_rxdRise_off low off ticks, becomes_modLine n s _⟩,
      fun on other => rxdRise_becomes n ticks s low on (idle other), fun on measuring => ?_⟩
    obtain ⟨direct, early, late⟩ := measured measuring
    refine ⟨fun edge begun => rxdRise_becomes n ticks s low on ?_,
      fun edge begun => rxdRise_becomes n ticks s low on ?_,
      fun edge soon => rxdRise_becomes n ticks s low on (early edge soon),
      fun edge after below => rxdRise_becomes n ticks s low on (late edge after below), fun edge after => ?_⟩
    · have same := direct edge
      rwa [onEdge_earlyRise edge begun] at same
    · rw [← onEdge_begun edge begun ticks false]
      exact direct edge
    · rw [exec_rxdRise_on low on ticks, measureEdge_judged measuring edge after]
      rfl

end Sys2Proof.Machine
end

section
/-! SUPPORT. The Capture Unit's FIFO, counts and writes (04_capture.md, R61 to R75), and snapping (R33 to R35). -/

namespace Sys2Proof.Machine

section
variable {s t : State} {n : LineNo}

/-! ## The reports after a mark or a cause -/

theorem dirty_mark_self (s : State) (n : LineNo) : (s.mark n).reports.dirty.get n = true := vector_get_set_self ..

theorem dirty_raise_self (s : State) (n : LineNo) (c : LineCause) : (s.raise n c).reports.dirty.get n = true :=
  vector_get_set_self ..

theorem held_raise_self (s : State) (n : LineNo) (c : LineCause) :
    (s.raise n c).reports.held.get n = s.reports.held.get n ||| c.bits := vector_get_set_self ..

theorem held_raiseIf_self (s : State) (n : LineNo) (c : LineCause) (b : Bool) :
    (s.raiseIf n c b).reports.held.get n = s.reports.held.get n ||| (if b then c.bits else 0) := by
  cases b
  · exact BitVec.or_zero.symm
  · exact held_raise_self s n c

theorem dirty_raiseIf (n : LineNo) (c : LineCause) (b : Bool) (dirty : s.reports.dirty.get n = true) :
    (s.raiseIf n c b).reports.dirty.get n = true := by
  cases b
  · exact dirty
  · exact dirty_raise_self s n c

/-! ## The receive FIFO (R62, R63) -/

theorem becomes_modCap (s : State) (n : LineNo) (f : Capture → Capture) :
    LineBecomes n s (s.modCap n f) { s.line n with cap := f (s.line n).cap } s.reports := becomes_modLine n s _

theorem offer_frozen {c : Capture}
    (frozen : c.trigger = .frozen ∨ c.trigger = .counting ∧ c.remaining ≤ c.fifo.length - c.lead) :
    c.offer = .freezeDrop := by
  unfold Capture.offer
  rcases frozen with frozen | full
  · exact if_pos frozen
  · rw [if_pos full, ite_self]

theorem offer_full {c : Capture}
    (open_ : ¬(c.trigger = .frozen ∨ c.trigger = .counting ∧ c.remaining ≤ c.fifo.length - c.lead))
    (full : 64 ≤ c.fifo.length) : c.offer = .overflowDrop := by
  obtain ⟨thawed, room⟩ := not_or.1 open_
  exact (if_neg thawed).trans ((if_neg room).trans (if_pos full))

theorem offer_joins {c : Capture}
    (open_ : ¬(c.trigger = .frozen ∨ c.trigger = .counting ∧ c.remaining ≤ c.fifo.length - c.lead))
    (room : c.fifo.length < 64) : c.offer = .accepted := by
  obtain ⟨thawed, waits⟩ := not_or.1 open_
  exact (if_neg thawed).trans ((if_neg waits).trans (if_neg (Nat.not_le.2 room)))

theorem offer_cases (s : State) (n : LineNo) (b : Byte) :
    ((s.line n).cap.offer = .freezeDrop →
      LineBecomes n s (s.offer n b) { s.line n with cap := (s.line n).cap.drop 1 }
        (s.markIf n ((s.line n).cap.dropped != droppedMax)).reports) ∧
    ((s.line n).cap.offer = .overflowDrop →
      LineBecomes n s (s.offer n b) { s.line n with cap := (s.line n).cap.drop 1 } (s.raise n .dataDropped).reports) ∧
    ((s.line n).cap.offer = .accepted → LineBecomes n s (s.offer n b)
      { s.line n with cap := { (s.line n).cap with fifo := (s.line n).cap.fifo ++ [b] } } s.reports) := by
  unfold State.offer
  dsimp only
  refine ⟨fun drops => ?_, fun drops => ?_, fun joins => ?_⟩
  · rw [drops]
    exact becomes_markIf n s _ _
  · rw [drops]
    exact becomes_raise n s _ _
  · rw [joins]
    exact becomes_modCap s n _

/-! ## The trigger's accounts (R75) -/

theorem account_counting {c : Capture} (counting : c.trigger = .counting) (k : Nat) : c.account k =
    if c.lead - k = 0 ∧ c.remaining - (k - c.lead) = 0 then
      { c with lead := c.lead - k, remaining := c.remaining - (k - c.lead), trigger := .frozen }
    else { c with lead := c.lead - k, remaining := c.remaining - (k - c.lead) } := if_pos counting

/-- Settles O21: the offer by its first test that applies, and the trigger's match and account. -/
theorem fifoOffer : Obligations.FifoOffer := by
  refine ⟨fun n b s => ?offer, fun n s => ?matched, fun c k counting => ?account⟩
  case offer =>
    obtain ⟨freezes, overflows, joins⟩ := offer_cases s n b
    refine ⟨fun frozen => (freezes (offer_frozen frozen)).as rfl ?_,
      fun open_ full => overflows (offer_full open_ full), fun open_ room => joins (offer_joins open_ room)⟩
    by_cases most : (s.line n).cap.dropped = 4294967295
    · rw [if_pos most, most]
      rfl
    · rw [if_neg most, show ((s.line n).cap.dropped != droppedMax) = true from bne_iff_ne.2 most]
      rfl
  case matched => exact becomes_mark n s _
  case account =>
    rw [account_counting counting]
    split
    next none => exact ⟨rfl, rfl, fun _ => none, fun _ => rfl⟩
    next some => exact ⟨rfl, rfl, fun frozen => (nomatch counting.symm.trans frozen), fun none => absurd none some⟩

/-! ## The counts after a write (R66 to R72) -/

/-- What the account to a trigger leaves. -/
theorem account_keeps (c : Capture) (k : Nat) : (c.account k).head = c.head ∧ (c.account k).tail = c.tail ∧
    (c.account k).taken = c.taken ∧ (c.account k).half = c.half ∧ (c.account k).lapped = c.lapped ∧
    (c.account k).fifo = c.fifo ∧ (c.account k).dropped = c.dropped := by
  unfold Capture.account
  dsimp only
  split
  · split <;> exact ⟨rfl, rfl, rfl, rfl, rfl, rfl, rfl⟩
  · exact ⟨rfl, rfl, rfl, rfl, rfl, rfl, rfl⟩

/-- The capture state of a HOLD line before the account of a write, and of a ROLL line. -/
def Capture.movedHold (c : Capture) (size k : Nat) : Capture :=
  ({ c with fifo := c.fifo.drop k, head := addCount c.head k
            taken := holdTaken c.taken (addCount c.head k) size } : Capture).holdTail

def Capture.movedRoll (c : Capture) (size k : Nat) : Capture :=
  ({ c with fifo := c.fifo.drop k, head := addCount c.head k } : Capture).rollTail size

theorem written_hold (c : Capture) (size k : Nat) :
    c.written .hold size k = ((c.movedHold size k).account k).judge .hold size := rfl

theorem written_roll (c : Capture) (size k : Nat) :
    c.written .roll size k = ((c.movedRoll size k).account k).judge .roll size := rfl

/-- A count set one ring size behind another is one ring size away from it. -/
theorem dist_behind (head : Word) {size : Nat} (fits : size < 4294967296) :
    dist (head - BitVec.ofNat 32 size) head = size := by
  have back : head - (head - BitVec.ofNat 32 size) = BitVec.ofNat 32 size := by bv_omega
  rw [dist, back, BitVec.toNat_ofNat]
  exact Nat.mod_eq_of_lt fits

theorem dist_holdTaken (taken head : Word) {size : Nat} (fits : size < 4294967296) :
    dist (holdTaken taken head size) head ≤ size := by
  unfold holdTaken
  split
  next near => exact near
  · exact (dist_behind head fits).le

theorem holdTail_tail (c : Capture) : c.holdTail.tail = if c.trigger = .frozen then c.tail else c.taken := rfl

/-- Settles O22: the counts are moved before the account of the write, which leaves them, and judged after it. -/
theorem captureCounts : Obligations.CaptureCounts := by
  intro c size k fits head h r
  obtain ⟨hHead, hTail, hTaken, -, hLapped, hFifo, hDropped⟩ := account_keeps (c.movedHold size k) k
  obtain ⟨rHead, rTail, rTaken, rHalf, -, rFifo, -⟩ := account_keeps (c.movedRoll size k) k
  have hUsed : ((c.movedHold size k).account k).used = dist (holdTaken c.taken head size) head := by
    rw [Capture.used, hTaken, hHead]
    rfl
  have movedTail : (c.movedRoll size k).tail = if size < dist c.tail head then head - BitVec.ofNat 32 size else c.tail :=
    rfl
  have near : dist (c.movedRoll size k).tail head ≤ size := by
    rw [movedTail]
    split
    · exact (dist_behind head fits).le
    next close => exact Nat.not_lt.1 close
  refine ⟨⟨hHead, rHead, hFifo, rFifo, hDropped⟩, ⟨hTaken, fun thawed => ?_, fun frozen => ?_, ?_, hLapped⟩,
    ⟨rTaken, rTail.trans movedTail, ?_, ?_, rHalf⟩⟩
  · have follows : h.tail = h.taken := by
      change ((c.movedHold size k).account k).tail = ((c.movedHold size k).account k).taken
      rw [hTail, hTaken]
      exact if_neg thawed
    have headIs : h.head = head := hHead
    have takenIs : h.taken = holdTaken c.taken head size := hTaken
    refine ⟨follows, ?_⟩
    rw [follows, headIs, takenIs]
    exact dist_holdTaken c.taken head fits
  · change ((c.movedHold size k).account k).tail = c.tail
    rw [hTail]
    exact if_pos frozen
  · change decide (size / 2 ≤ ((c.movedHold size k).account k).used) = true ↔
      size / 2 ≤ dist ((c.movedHold size k).account k).taken ((c.movedHold size k).account k).head
    exact decide_eq_true_iff
  · change dist ((c.movedRoll size k).account k).tail ((c.movedRoll size k).account k).head ≤ size
    rw [rTail, rHead]
    exact near
  · exact decide_eq_true_iff

/-! ## The write's transaction (R65) -/

theorem writable_hold {l : Line} (hold : l.settings.captureMode = .hold) : l.writable =
    min (min (min 128 l.cap.fifo.length) (l.settings.captureSize - l.cap.head.toNat % l.settings.captureSize))
      (l.settings.captureSize - dist l.cap.taken l.cap.head) := by
  unfold Line.writable
  dsimp only
  rw [hold]
  rfl

theorem writable_roll {l : Line} (roll : l.settings.captureMode = .roll) : l.writable =
    min (min 128 l.cap.fifo.length) (l.settings.captureSize - l.cap.head.toNat % l.settings.captureSize) := by
  unfold Line.writable
  dsimp only
  rw [roll]

theorem writable_le (l : Line) : l.writable ≤
    min (min 128 l.cap.fifo.length) (l.settings.captureSize - l.cap.head.toNat % l.settings.captureSize) := by
  cases mode : l.settings.captureMode
  · rw [writable_hold mode]
    exact Nat.min_le_left ..
  · rw [writable_roll mode]

/-- Settles O23: the writable length is the least of its bounds. -/
theorem captureTransaction : Obligations.CaptureTransaction := by
  intro n s
  have least := writable_le (s.line n)
  have below := Nat.le_min.1 (least.trans (Nat.min_le_left ..))
  have end_ := least.trans (Nat.min_le_right ..)
  exact ⟨rfl, rfl, rfl, below.1, below.2, by omega, writable_hold, writable_roll⟩

/-! ## The write's completion (R66) -/

/-- The capture state once a write has completed, Draining included. -/
def Line.drained (l : Line) (k : Nat) : Capture :=
  let c := l.cap.written l.settings.captureMode l.settings.captureSize k
  { c with draining := l.cap.draining && !c.fifo.isEmpty }

theorem account_draining (c : Capture) (k : Nat) : (c.account k).draining = c.draining := by
  unfold Capture.account
  dsimp only
  split
  · split <;> rfl
  · rfl

theorem written_draining (c : Capture) (mode : CaptureMode) (size k : Nat) :
    (c.written mode size k).draining = c.draining := by
  cases mode
  · exact account_draining (c.movedHold size k) k
  · exact account_draining (c.movedRoll size k) k

/-- The causes of a capture write that has completed: each is raised where its condition newly holds. -/
def State.raiseWritten (s : State) (n : LineNo) (before after : Capture) : State :=
  ((s.raiseIf n .captureFrozen (before.trigger != .frozen && after.trigger == .frozen)).raiseIf n .captureHalf
    (!before.half && after.half)).raiseIf n .captureLapped (!before.lapped && after.lapped)

theorem captureWritten_eq (s : State) (n : LineNo) (k : Nat) : s.captureWritten n k =
    ((s.modCap n fun _ => (s.line n).drained k).mark n).raiseWritten n (s.line n).cap ((s.line n).drained k) := by
  unfold State.captureWritten State.raiseWritten State.raiseJudged Line.drained
  dsimp only
  rw [written_draining]

theorem raiseIf_shared (s : State) (n : LineNo) (c : LineCause) (b : Bool) : (s.raiseIf n c b).shared = s.shared := by
  cases b <;> rfl

theorem raiseWritten_shared (s : State) (n : LineNo) (before after : Capture) :
    (s.raiseWritten n before after).shared = s.shared := by
  rw [State.raiseWritten, raiseIf_shared, raiseIf_shared, raiseIf_shared]

theorem raiseWritten_line (s : State) (n m : LineNo) (before after : Capture) :
    (s.raiseWritten n before after).line m = s.line m := by
  rw [State.raiseWritten, line_raiseIf, line_raiseIf, line_raiseIf]

theorem raiseWritten_dirty {s : State} {n : LineNo} (before after : Capture) (dirty : s.reports.dirty.get n = true) :
    (s.raiseWritten n before after).reports.dirty.get n = true :=
  dirty_raiseIf _ _ _ (dirty_raiseIf _ _ _ (dirty_raiseIf _ _ _ dirty))

theorem newly_iff {a b : Bool} : (!a && b) = true ↔ a = false ∧ b = true := by
  rw [Bool.and_eq_true, Bool.not_eq_true']

theorem raiseWritten_held (s : State) (n : LineNo) (before after : Capture) :
    (s.raiseWritten n before after).reports.held.get n = s.reports.held.get n
      ||| (if before.trigger ≠ .frozen ∧ after.trigger = .frozen then 0x040 else 0)
      ||| (if before.half = false ∧ after.half = true then 0x080 else 0)
      ||| (if before.lapped = false ∧ after.lapped = true then 0x100 else 0) := by
  rw [State.raiseWritten, held_raiseIf_self, held_raiseIf_self, held_raiseIf_self]
  refine congrArg₂ _ (congrArg₂ _ (congrArg₂ _ rfl (if_congr ?_ rfl rfl)) (if_congr newly_iff rfl rfl))
    (if_congr newly_iff rfl rfl)
  rw [Bool.and_eq_true, bne_iff_ne, beq_iff_eq]

theorem exec_captureWrite {x : Transaction} (inFlight : s.port.inFlight = some x) (job : x.job = .capture n) :
    exec .captureWriteComplete s =
      .next (if x.stale then s.completed else s.completed.captureWritten n x.length).settlePort := by
  change execCaptureWriteComplete s = _
  unfold execCaptureWriteComplete
  rw [inFlight]
  dsimp only
  rw [job]
  rfl

/-- Settles O24: the completion writes the capture state and raises what newly holds. -/
theorem captureWriteCompletes : Obligations.CaptureWriteCompletes := by
  intro n x s inFlight job l w
  have row := exec_captureWrite inFlight job
  refine ⟨fun stale => ⟨s.completed, ?_, rfl⟩, fun fresh => ⟨s.completed.captureWritten n x.length, ?_, ?_⟩⟩
  · rw [row, stale]
    rfl
  · rw [row, fresh]
    rfl
  · have moved := (becomes_modCap s.completed n fun _ => l.drained x.length).mark
    have shared := (raiseWritten_shared ((s.completed.modCap n fun _ => l.drained x.length).mark n) n l.cap
      (l.drained x.length)).trans moved.shared
    rw [captureWritten_eq]
    refine ⟨congrArg Shared.port shared, congrArg Shared.common shared, congrArg Shared.store shared, fun m apart => ?_,
      ?_, raiseWritten_dirty _ _ (dirty_mark_self _ _), raiseWritten_held _ n _ _⟩
    · rw [raiseWritten_line]
      exact moved.others m apart
    · rw [raiseWritten_line]
      exact moved.line

end

/-! ## Snapping (R33 to R35) -/

/-- Entry e is the best of a list of entries for the period q: of least error, of the smallest Ps on a tie. -/
def BestEntry (q : Nat) (e : Fin 12) (xs : List (Fin 12)) : Prop :=
  e ∈ xs ∧ ∀ d ∈ xs, rateError q (ratePs e) ≤ rateError q (ratePs d) ∧
    (d < e → rateError q (ratePs e) < rateError q (ratePs d))

theorem bestEntry_unique {q : Nat} {e d : Fin 12} {xs : List (Fin 12)} (he : BestEntry q e xs)
    (hd : BestEntry q d xs) : e = d := by
  obtain ⟨le, lt⟩ := he.2 d hd.1
  obtain ⟨le', lt'⟩ := hd.2 e he.1
  rcases lt_trichotomy e d with less | same | more
  · exact absurd (lt' less) (Nat.not_lt.2 le)
  · exact same
  · exact absurd (lt more) (Nat.not_lt.2 le')

/-- Going through entries of ever larger Ps, the best so far stays the best. -/
theorem foldl_betterEntry (q : Nat) (xs : List (Fin 12)) (b : Fin 12) (sorted : (b :: xs).Pairwise (· < ·)) :
    ∃ e, xs.foldl (betterEntry q) (some b) = some e ∧ BestEntry q e (b :: xs) := by
  induction xs generalizing b with
  | nil =>
    refine ⟨b, rfl, List.mem_singleton_self b, fun d member => ?_⟩
    rw [List.mem_singleton.1 member]
    exact ⟨Nat.le_refl _, fun less => absurd less (lt_irrefl b)⟩
  | cons x xs ih =>
    obtain ⟨before, sorted'⟩ := List.pairwise_cons.1 sorted
    have first : b < x := before x List.mem_cons_self
    by_cases better : rateError q (ratePs x) < rateError q (ratePs b)
    · obtain ⟨e, fold, member, best⟩ := ih x sorted'
      refine ⟨e, ?_, List.mem_cons_of_mem b member, fun d among => ?_⟩
      · rw [List.foldl_cons, betterEntry, if_pos better]
        exact fold
      · rcases List.mem_cons.1 among with rfl | among
        · have less := lt_of_le_of_lt (best x List.mem_cons_self).1 better
          exact ⟨less.le, fun _ => less⟩
        · exact best d among
    · have skipped : (b :: xs).Pairwise (· < ·) := List.pairwise_cons.2
        ⟨fun y among => before y (List.mem_cons_of_mem x among), (List.pairwise_cons.1 sorted').2⟩
      obtain ⟨e, fold, member, best⟩ := ih b skipped
      have most := (best b List.mem_cons_self)
      refine ⟨e, ?_, ?_, fun d among => ?_⟩
      · rw [List.foldl_cons, betterEntry, if_neg better]
        exact fold
      · rcases List.mem_cons.1 member with rfl | member
        · exact List.mem_cons_self
        · exact List.mem_cons_of_mem b (List.mem_cons_of_mem x member)
      · rcases List.mem_cons.1 among with rfl | among
        · exact best d List.mem_cons_self
        · rcases List.mem_cons.1 among with rfl | among
          · refine ⟨most.1.trans (Nat.not_lt.1 better), fun less => ?_⟩
            exact lt_of_lt_of_le (most.2 (first.trans less)) (Nat.not_lt.1 better)
          · exact best d (List.mem_cons_of_mem b among)

/-- The candidate of a look is the best entry that is not struck off. -/
theorem candidate_iff (rejected : BitVec 12) (q : Nat) (e : Fin 12) : candidate rejected q = some e ↔
    BestEntry q e ((List.finRange 12).filter fun d => !rejected.getLsbD d.val) := by
  have sorted : ((List.finRange 12).filter fun d => !rejected.getLsbD d.val).Pairwise (· < ·) :=
    (List.pairwise_lt_finRange 12).filter _
  unfold candidate
  cases entries : (List.finRange 12).filter fun d => !rejected.getLsbD d.val with
  | nil => exact ⟨nofun, fun best => nomatch best.1⟩
  | cons x xs =>
    rw [entries] at sorted
    obtain ⟨b, fold, best⟩ := foldl_betterEntry q xs x sorted
    have found : (x :: xs).foldl (betterEntry q) none = some b := fold
    rw [found]
    refine ⟨fun same => ?_, fun best' => congrArg some (bestEntry_unique best best')⟩
    cases same
    exact best

theorem look_iff (rejected : BitVec 12) (tolerance q : Nat) (e : Fin 12) : look rejected tolerance q = some e ↔
    rejected.getLsbD e.val = false ∧ rateError q (ratePs e) ≤ tolerance ∧
    (∀ d : Fin 12, rejected.getLsbD d.val = false → rateError q (ratePs e) ≤ rateError q (ratePs d)) ∧
    ∀ d : Fin 12, d < e → rejected.getLsbD d.val = false → rateError q (ratePs e) < rateError q (ratePs d) := by
  have among : ∀ d, d ∈ (List.finRange 12).filter (fun d => !rejected.getLsbD d.val) ↔
      rejected.getLsbD d.val = false := fun d => by simp
  rw [look, Option.filter_eq_some_iff, candidate_iff, decide_eq_true_iff, BestEntry, among]
  constructor
  · rintro ⟨⟨kept, best⟩, close⟩
    exact ⟨kept, close, fun d kept' => (best d ((among d).2 kept')).1,
      fun d less kept' => (best d ((among d).2 kept')).2 less⟩
  · rintro ⟨kept, close, least, first⟩
    exact ⟨⟨kept, fun d member => ⟨least d ((among d).1 member), fun less => first d less ((among d).1 member)⟩⟩, close⟩

theorem rateError_cases (q ps : Nat) :
    rateError q ps = if q ≤ ps then (ps - q) * 1000 / ps else (q - ps) * 1000 / ps := by
  unfold rateError
  split
  next below => rw [Nat.sub_eq_zero_of_le below, Nat.zero_add]
  next above => rw [Nat.sub_eq_zero_of_le (Nat.le_of_lt (Nat.not_le.1 above)), Nat.add_zero]

theorem ratePs_table (e : Fin 12) : rateTable[e.val]? = some (ratePs e) := by
  unfold ratePs
  rw [List.getD_eq_getElem?_getD, List.getElem?_eq_getElem (show e.val < rateTable.length from e.isLt)]
  rfl

/-- Settles O25: the best entry of the table, looked for twice. -/
theorem snapping : Obligations.Snapping := by
  refine ⟨⟨rfl, ratePs_table⟩, rateError_cases, look_iff,
    fun rej tol pm raw => ⟨fun e found => ?_, fun missed e found => ?_, fun missed missed' => ?_⟩⟩
  · unfold snap
    rw [found]
  · unfold snap
    rw [missed, found]
  · unfold snap
    rw [missed, missed']

end Sys2Proof.Machine
end

section
/-! SUPPORT. The judgement of runs, failed attempts and conclusions (02_rate_finding.md, R31, R32, R36, R38 to R40). -/

namespace Sys2Proof.Machine

section
variable {s t : State} {n : LineNo}

/-! ## The dirty records after a grant -/

theorem dirty_mark (s : State) (n m : LineNo) :
    (s.mark n).reports.dirty.get m = (decide (m = n) || s.reports.dirty.get m) := by
  by_cases same : m = n
  · subst same
    rw [dirty_mark_self, decide_eq_true rfl]
    rfl
  · rw [decide_eq_false same]
    exact vector_get_set_ne _ _ same

theorem dirty_grantSlot_foldl (xs : List LineNo) (s : State) (m : LineNo) :
    (xs.foldl State.grantSlot s).reports.dirty.get m = (decide (m ∈ xs) || s.reports.dirty.get m) := by
  induction xs generalizing s with
  | nil => simp
  | cons x xs ih =>
    rw [List.foldl_cons, ih, State.grantSlot, dirty_mark]
    simp [Bool.or_left_comm, Bool.or_assoc, State.modDet, State.modLine, State.setLine]

theorem dirty_grantSlots (s : State) (m : LineNo) :
    s.grantSlots.reports.dirty.get m = (decide (m ∈ s.granted) || s.reports.dirty.get m) :=
  dirty_grantSlot_foldl s.granted _ m

theorem dirty_grantSlots_of_dirty {m : LineNo} (dirty : s.reports.dirty.get m = true) :
    s.grantSlots.reports.dirty.get m = true := by
  rw [dirty_grantSlots, dirty, Bool.or_true]

/-- The statements write the lines that are left with a decided inequality. -/
theorem filter_bne (xs : List LineNo) (n : LineNo) : xs.filter (· != n) = xs.filter fun m => decide (m ≠ n) :=
  List.filter_congr fun m _ => by
    by_cases same : m = n <;> simp [same]

/-! ## Conclusions (R40) -/

/-- What a detection's end makes of the queue, the slots and the reports. -/
theorem endDetection_finder (s : State) (n : LineNo) (o : DetectOutcome) :
    (s.endDetection n o).queue = (s.queue.filter fun m => decide (m ≠ n)).drop
      (4 - (s.slots.filter fun m => decide (m ≠ n)).length) ∧
    (s.endDetection n o).slots = (s.slots.filter fun m => decide (m ≠ n)) ++
      (s.queue.filter fun m => decide (m ≠ n)).take (4 - (s.slots.filter fun m => decide (m ≠ n)).length) := by
  rw [endDetection_eq, queue_grantSlots, slots_grantSlots, ← filter_bne, ← filter_bne]
  exact ⟨rfl, rfl⟩

theorem endDetection_reports (s : State) (n : LineNo) (o : DetectOutcome) :
    (s.endDetection n o).reports.held = (s.raise n .rateConcluded).reports.held ∧
    (s.endDetection n o).reports.dirty.get n = true := by
  rw [endDetection_eq]
  exact ⟨held_grantSlots _, dirty_grantSlots_of_dirty (dirty_raise_self _ _ _)⟩

theorem endDetection_store (s : State) (n : LineNo) (o : DetectOutcome) :
    (s.endDetection n o).store = s.store ∧ (s.endDetection n o).port = s.port := by
  rw [endDetection_eq, store_grantSlots, port_grantSlots]
  exact ⟨rfl, rfl⟩

theorem endDetection_gone (s : State) (n : LineNo) (o : DetectOutcome) :
    n ∉ (s.endDetection n o).queue ∧ n ∉ (s.endDetection n o).slots := by
  rw [(endDetection_finder s n o).1, (endDetection_finder s n o).2]
  have away : ∀ xs : List LineNo, n ∉ xs.filter fun m => decide (m ≠ n) := fun xs member => by simp at member
  refine ⟨fun member => away _ (List.mem_of_mem_drop member), fun member => ?_⟩
  exact (List.mem_append.1 member).elim (away _) fun member => away _ (List.mem_of_mem_take member)

theorem concludeDetection_free (free : (s.line n).det.bound = false) (o : DetectOutcome) :
    s.concludeDetection n o = s.endDetection n o := if_neg (Bool.eq_false_iff.1 free)

theorem concludeDetection_bound (bound : (s.line n).det.bound = true) (o : DetectOutcome) : s.concludeDetection n o =
    (s.endDetection n o).actionEnded n .detectRate (if o = .failed then some .detectFailed else none) := if_pos bound

theorem exec_detectLimitExpiry (running : (s.line n).det.state ≠ .none) (due : timerDue (s.line n).det.limit = true) :
    exec (.detectLimitExpiry n) s = .next (s.concludeDetection n
      (if (s.line n).det.state = .verifying then .settledUnverified else .failed)).settlePort :=
  if_pos ⟨(inProgress_iff _).2 running, due⟩

/-- Settles O27: a conclusion is one update of the line and a leaving, and a bound step hears of it. -/
theorem detectLimit : Obligations.DetectLimit := by
  refine ⟨fun n s running due free => ?limit, fun n o s => ⟨exec_detectLimitExpiry, s.endDetection n o,
    fun free => concludeDetection_free free o, fun bound => concludeDetection_bound bound o, line_endDetection s n o,
    (endDetection_reports s n o).1, (endDetection_reports s n o).2, endDetection_finder s n o,
    common_endDetection s n o, (endDetection_store s n o).1, (endDetection_store s n o).2,
    fun m apart => sameButDetection_of_others (others_endDetection s n o) apart⟩⟩
  case limit =>
    have row := exec_detectLimitExpiry running due
    rw [concludeDetection_free free] at row
    have held : ∀ o, (s.endDetection n o).reports.held.get n = s.reports.held.get n ||| 0x020 := fun o => by
      rw [(endDetection_reports s n o).1, held_raise_self]
      rfl
    refine ⟨_, row, ?_⟩
    rw [line_endDetection, common_endDetection, held]
    refine ⟨rfl, rfl, rfl, rfl, rfl, rfl, rfl, fun verifying => ?_, fun other => ?_, (endDetection_gone s n _).1,
      (endDetection_gone s n _).2, rfl, rfl⟩
    · rw [if_pos verifying]
      exact ⟨rfl, rfl⟩
    · rw [if_neg other]
      exact ⟨rfl, rfl⟩

/-! ## Judged runs (R31, R32, R36, R38) -/

theorem exec_runJudged (measuring : (s.line n).det.state = .measuring) (edge : (s.line n).det.meas.edge = true) :
    exec (.runJudged n) s = .next (s.judgeEdge n).settlePort := if_pos ⟨measuring, edge⟩

/-- The state as the 24th counted run has come, with the least run as Measured Period (R32). -/
def State.completedRuns (s : State) (n : LineNo) (pm : Nat) : State :=
  ((s.modDet n Detection.judgeEdge).modDet n fun d => { d with measured := some pm }).mark n

theorem judgeEdge_24th {pm : Nat} (counted : (s.line n).det.judgeEdge.counted = 24)
    (least : (s.line n).det.judgeEdge.least = some pm) : s.judgeEdge n = (s.modDet n Detection.judgeEdge).measured n pm := by
  unfold State.judgeEdge
  dsimp only
  rw [line_modDet_self]
  dsimp only
  rw [least, counted]
  rfl

theorem measured_eq (s : State) (n : LineNo) (pm : Nat) : s.measured n pm =
    match snap (s.line n).det.rejected (s.line n).settings.tolerance (s.line n).settings.rawAllowed pm with
    | some (a, p) => ((s.modDet n fun d => { d with measured := some pm }).mark n).adopt n a p
    | none => ((s.modDet n fun d => { d with measured := some pm }).mark n).failAttempt n := rfl

theorem becomes_completedRuns (s : State) (n : LineNo) (pm : Nat) : LineBecomes n s (s.completedRuns n pm)
    { s.line n with det := { (s.line n).det.judgeEdge with measured := some pm } } (s.mark n).reports :=
  ((becomes_modDet s n Detection.judgeEdge).modLine fun l => { l with det := { l.det with measured := some pm } }).mark

theorem judgeEdge_rejected (d : Detection) : d.judgeEdge.rejected = d.rejected ∧ d.judgeEdge.attempts = d.attempts := by
  cases begun : d.meas.begun
  · rw [judgeEdge_begins begun]
    exact ⟨rfl, rfl⟩
  · rcases Nat.lt_or_ge d.meas.ticks 16 with short | least
    · rw [judgeEdge_glitch begun short]
      exact ⟨rfl, rfl⟩
    · rcases Nat.lt_or_ge d.meas.ticks 131072 with most | long
      · rw [judgeEdge_counts begun least (Nat.lt_succ_iff.1 most)]
        exact ⟨rfl, rfl⟩
      · rw [judgeEdge_tooLong begun long]
        exact ⟨rfl, rfl⟩

/-- The record that the 24th counted run leaves. -/
theorem judgeEdge_last {d : Detection} {m : Nat} (begun : d.meas.begun = true) (counted : d.counted = 23)
    (least : d.least = some m) (long : 16 ≤ d.meas.ticks) (short : d.meas.ticks < 131072) :
    d.judgeEdge = { d with meas := ⟨true, false, 0⟩, counted := 24, least := some (min m d.meas.ticks) } := by
  rw [judgeEdge_counts begun long (Nat.lt_succ_iff.1 short), counted, least]

/-- What the 24th counted run leads to (R34 to R36, R38). -/
theorem judgeEdge_completes {m : Nat} (begun : (s.line n).det.meas.begun = true) (counted : (s.line n).det.counted = 23)
    (least : (s.line n).det.least = some m) (long : 16 ≤ (s.line n).det.meas.ticks)
    (short : (s.line n).det.meas.ticks < 131072) :
    let pm := min m (s.line n).det.meas.ticks
    let snapped := snap (s.line n).det.rejected (s.line n).settings.tolerance (s.line n).settings.rawAllowed pm
    (∀ a p, snapped = some (a, p) → s.judgeEdge n = (s.completedRuns n pm).adopt n a p) ∧
    (snapped = none → s.judgeEdge n = (s.completedRuns n pm).failAttempt n) := by
  have last := judgeEdge_last begun counted least long short
  have judged := judgeEdge_24th (s := s) (n := n) (pm := min m (s.line n).det.meas.ticks) (by rw [last]) (by rw [last])
  have line := (becomes_modDet s n Detection.judgeEdge).line
  rw [measured_eq, line] at judged
  dsimp only at judged
  rw [(judgeEdge_rejected _).1] at judged
  refine ⟨fun a p found => ?_, fun missed => ?_⟩
  · rw [found] at judged
    exact judged
  · rw [missed] at judged
    exact judged

theorem adopt_slots (s : State) (n : LineNo) (a : Adoption) (p : Nat) : n ∉ (s.adopt n a p).slots := by
  rw [adopt_eq, slots_grantSlots, List.mem_append]
  rintro (kept | granted)
  · simp [State.leaveFinder] at kept
  · exact not_mem_granted_leave _ n granted

theorem adopt_dirty (s : State) (n : LineNo) (a : Adoption) (p : Nat) :
    (s.adopt n a p).reports.dirty.get n = true := by
  rw [adopt_eq]
  exact dirty_grantSlots_of_dirty (dirty_mark_self _ _)

/-- An attempt that failed below the fourth (R38), as the line, the queue and the slots show it. -/
theorem failAttempt_requeues (few : (s.line n).det.attempts < 3) : s.failAttempt n = s.requeue n :=
  if_pos (by omega)

theorem failAttempt_concludes (many : 3 ≤ (s.line n).det.attempts) : s.failAttempt n =
    (s.modDet n fun d => { d with attempts := d.attempts + 1 }).concludeDetection n .failed := if_neg (by omega)

theorem rejoined_finder (s : State) (n : LineNo) :
    (s.rejoined n).queue = (s.queue.filter fun m => decide (m ≠ n)) ++ [n] ∧
    (s.rejoined n).slots = s.slots.filter fun m => decide (m ≠ n) := by
  rw [← filter_bne, ← filter_bne]
  exact ⟨rfl, rfl⟩

theorem requeue_becomes (s : State) (n : LineNo) :
    let u := s.requeue n
    let q := (s.queue.filter fun m => decide (m ≠ n)) ++ [n]
    let kept := s.slots.filter fun m => decide (m ≠ n)
    let granted := q.take (4 - kept.length)
    u.queue = q.drop (4 - kept.length) ∧ u.slots = kept ++ granted ∧ u.common = s.common ∧ u.store = s.store ∧
    u.port = s.port ∧ u.reports.dirty.get n = true ∧ u.reports.held = s.reports.held ∧
    u.line n = { s.line n with det := { (s.line n).det with
      state := (if n ∈ granted then .measuring else .queued), attempts := (s.line n).det.attempts + 1, counted := 0
      least := none, meas := ⟨false, false, 0⟩ } } ∧
    ∀ m : LineNo, m ≠ n →
      (m ∉ granted → u.line m = s.line m) ∧
      (m ∈ granted → u.line m = { s.line m with det := { (s.line m).det with
        state := .measuring, meas := ⟨false, false, 0⟩ } } ∧ u.reports.dirty.get m = true) := by
  obtain ⟨queue, slots⟩ := rejoined_finder s n
  have eq : s.requeue n = (s.rejoined n).grantSlots := rfl
  have granted : (s.rejoined n).granted = ((s.queue.filter fun m => decide (m ≠ n)) ++ [n]).take
      (4 - (s.slots.filter fun m => decide (m ≠ n)).length) := by
    rw [State.granted, queue, slots]
  have other : ∀ m, m ≠ n → (s.rejoined n).line m = s.line m := fun m apart => line_modDet_ne s _ apart
  dsimp only
  rw [← granted, ← queue, ← slots, eq]
  refine ⟨queue_grantSlots _, slots_grantSlots _, (common_grantSlots _).trans rfl, store_grantSlots _, port_grantSlots _,
    dirty_grantSlots_of_dirty (dirty_mark_self _ _), held_grantSlots _, ?_, fun m apart => ⟨fun out => ?_, fun in_ => ?_⟩⟩
  · rw [line_grantSlots, line_rejoined]
    split
    · rfl
    · rfl
  · rw [line_grantSlots_of_not_mem out, other m apart]
  · rw [line_grantSlots, if_pos in_, other m apart, dirty_grantSlots, decide_eq_true in_]
    exact ⟨rfl, rfl⟩

/-- Below the 24th run the judged edge changes the line's record alone. -/
theorem runJudged_goesOn (measuring : (s.line n).det.state = .measuring) (edge : (s.line n).det.meas.edge = true)
    (below : (s.line n).det.counted < 23) : ∃ u : State, exec (.runJudged n) s = .next u.settlePort ∧
      LineBecomes n s u { s.line n with det := (s.line n).det.judgeEdge } s.reports := by
  have counts := (judgeEdge_result (s.line n).det).1
  refine ⟨_, exec_runJudged measuring edge, ?_⟩
  rw [judgeEdge_goesOn (by omega)]
  exact becomes_modDet ..

/-- Settles O26: the judged edge by its run, the 24th run by what it snaps to, and the failed attempts by their
number. -/
theorem runJudged : Obligations.RunJudged := by
  refine ⟨fun n s measuring edge below => ?run, fun n a p m s measuring edge begun counted least long short found => ?adopts,
    fun n s => ⟨exec_runJudged, fun m measuring edge begun counted least long short missed => ?fails, fun many => ?last,
      fun few => ?again⟩⟩
  case run =>
    obtain ⟨u, row, becomes⟩ := runJudged_goesOn measuring edge below
    have det : (u.line n).det = (s.line n).det.judgeEdge := by rw [becomes.line]
    refine ⟨u, row, by rw [det]; exact becomes, ?_⟩
    rw [det]
    exact ⟨judgeEdge_begins, judgeEdge_glitch, judgeEdge_tooLong, fun begun long short =>
      judgeEdge_counts begun long (Nat.lt_succ_iff.1 short)⟩
  case adopts =>
    have becomes := becomes_completedRuns s n (min m (s.line n).det.meas.ticks)
    have judged := (judgeEdge_completes begun counted least long short).1 a p found
    refine ⟨_, exec_runJudged measuring edge, ?_⟩
    rw [judged, line_adopt, becomes.line, common_adopt, becomes.common]
    exact ⟨rfl, rfl, rfl, rfl, rfl, rfl, rfl, (judgeEdge_rejected _).1, (judgeEdge_rejected _).2, adopt_slots _ n a p,
      adopt_dirty _ n a p, rfl⟩
  case fails =>
    have judged := (judgeEdge_completes begun counted least long short).2 missed
    refine ⟨_, (becomes_completedRuns s n (min m (s.line n).det.meas.ticks)).as_line ?_, ?_⟩
    · rw [judgeEdge_last begun counted least long short]
    · rw [exec_runJudged measuring edge, judged]
  case last => exact ⟨_, becomes_modDet s n _, failAttempt_concludes many⟩
  case again =>
    rw [failAttempt_requeues few]
    exact requeue_becomes s n

end

end Sys2Proof.Machine
end

section
/-! SUPPORT. The transmitter (R15, R16, R18, R20, R135): the start and the end of a character, the level of TXD, and the
timers of a line. -/

namespace Sys2Proof.Machine

section
variable {s t : State} {n : LineNo}

/-! ## The start of a character (R15, R16) -/

theorem exec_characterStart (on : (s.line n).status = .on) (idle : (s.line n).tx = .idle)
    (free : (s.line n).flowHeld = false) : exec (.characterStart n) s =
      match (s.line n).readyByte (s.sendByte n) with
      | some (b, src) => .next (s.modLine n fun l => l.startChar b src).settlePort
      | none => .next s := if_pos ⟨on, idle, free⟩

theorem characterStart_ready (on : (s.line n).status = .on) (idle : (s.line n).tx = .idle)
    (free : (s.line n).flowHeld = false) {b : Byte} {src : TxSource}
    (ready : (s.line n).readyByte (s.sendByte n) = some (b, src)) :
    ∃ u : State, exec (.characterStart n) s = .next u.settlePort ∧
      LineBecomes n s u ((s.line n).startChar b src) s.reports := by
  have row := exec_characterStart on idle free
  rw [ready] at row
  exact ⟨_, row, becomes_modLine n s _⟩

theorem characterStart_stays (on : (s.line n).status = .on) (idle : (s.line n).tx = .idle)
    (free : (s.line n).flowHeld = false) (none : (s.line n).readyByte (s.sendByte n) = none) :
    exec (.characterStart n) s = .next s := by
  have row := exec_characterStart on idle free
  rwa [none] at row

theorem readyByte_operators {l : Line} (operators : l.ownerInForce = .operator ∨ l.ownerInForce = .lent)
    (text : Option Byte) : l.readyByte text = l.staging.head?.map fun b => (b, .operator) := by
  unfold Line.readyByte
  rcases operators with is | is <;> rw [is]

theorem readyByte_script {l : Line} (script : l.ownerInForce = .script) (text : Option Byte) :
    l.readyByte text = text.map fun b => (b, .script) := by
  unfold Line.readyByte
  rw [script]

theorem readyByte_free {l : Line} (free : l.ownerInForce = .free) (text : Option Byte) : l.readyByte text = none := by
  unfold Line.readyByte
  rw [free]

theorem sendByte_some (acting : (s.line n).run.state = .acting) (begun : (s.line n).run.begun = true)
    (send : (s.step n).action = 1) (left : (s.line n).run.textOffset < (s.step n).textLength.toNat) :
    s.sendByte n = (s.step n).text[(s.line n).run.textOffset]? :=
  if_pos ⟨acting, begun, action_iff.2 send, left⟩

theorem sendByte_none (lacks : (s.line n).run.state ≠ .acting ∨ (s.step n).action ≠ 1 ∨
    (s.step n).textLength.toNat ≤ (s.line n).run.textOffset) : s.sendByte n = none :=
  if_neg fun ⟨acting, _, send, left⟩ => by
    rcases lacks with is | is | is
    · exact is acting
    · exact is (action_iff.1 send)
    · exact absurd left (Nat.not_lt.2 is)

/-! ## The end of a character (R16, R142) -/

theorem gapOf_cases (g : Nat) : gapOf g = if g = 0 then .idle else .gap (timerStart g) := rfl

/-- Where the transmitter goes as a character ends, and the breaks that still wait. -/
theorem afterChar_eq (l : Line) (c : TxChar) : l.afterChar c = { l with
    tx := match l.breaks with
      | b :: _ => .brk b (timerStart b.length)
      | [] => if l.flowHeld then .held
        else if l.status ≠ .on ∨ c.leftover = true ∨ (if c.byte = 0x0D then l.settings.lineGap else l.settings.charGap) = 0
          then .idle
        else .gap (timerStart (if c.byte = 0x0D then l.settings.lineGap else l.settings.charGap))
    breaks := l.breaks.tail } := by
  unfold Line.afterChar
  cases breaks : l.breaks with
  | cons b rest => rfl
  | nil =>
    dsimp only
    rw [List.tail_nil, ← breaks]
    split
    · rfl
    · split
      next quiet =>
        rw [if_pos (quiet.imp_right .inl)]
      next earned =>
        rw [gapOf_cases]
        obtain ⟨on, fresh⟩ := not_or.1 earned
        by_cases none : (if c.byte = 0x0D then l.settings.lineGap else l.settings.charGap) = 0
        · rw [if_pos none, if_pos (.inr (.inr none))]
        · rw [if_neg none, if_neg (not_or.2 ⟨on, not_or.2 ⟨fresh, none⟩⟩)]

theorem countChar_eq (l : Line) (src : TxSource) : l.countChar src = { l with
    sent := if src = .operator then l.sent + 1 else l.sent
    staging := if src = .operator then l.staging.tail else l.staging
    run := if src = .script then { l.run with textOffset := l.run.textOffset + 1 } else l.run } := by
  cases src <;> rfl

/-- The line once a character has ended (R16). -/
theorem charEnded_eq (l : Line) (c : TxChar) : l.charEnded c = { l with
    tx := (l.afterChar c).tx
    breaks := (l.afterChar c).breaks
    ownerInForce := l.owner
    sent := if c.source = .operator then l.sent + 1 else l.sent
    staging := if (l.ownerInForce = .operator ∨ l.ownerInForce = .lent) ∧ (l.owner = .free ∨ l.owner = .script) then []
      else if c.source = .operator then l.staging.tail else l.staging
    run := if c.source = .script then { l.run with textOffset := l.run.textOffset + 1 } else l.run } := by
  have lost : (l.ownerInForce.isOperators && !l.owner.isOperators) = true ↔
      (l.ownerInForce = .operator ∨ l.ownerInForce = .lent) ∧ (l.owner = .free ∨ l.owner = .script) := by
    rw [Bool.and_eq_true, Bool.not_eq_true', isOperators_iff, notOperators_iff]
  have emptied := if_congr lost (Eq.refl ([] : List Byte))
    (Eq.refl (if c.source = .operator then l.staging.tail else l.staging))
  rw [Line.charEnded, Line.enforce, countChar_eq, afterChar_eq, ← emptied]

theorem charEnded_owner (l : Line) (c : TxChar) : (l.charEnded c).ownerInForce = l.owner := rfl

/-- The state as a character has ended, before a runner hears of it. -/
def State.charEnded (s : State) (n : LineNo) (c : TxChar) : State :=
  (s.modLine n fun _ => (s.line n).charEnded c).markIf n
    (c.source != .nobody || (s.line n).ownerInForce != (s.line n).owner)

theorem becomes_charEnded (s : State) (n : LineNo) (c : TxChar) : LineBecomes n s (s.charEnded n c)
    ((s.line n).charEnded c)
    (if c.source = .nobody ∧ (s.line n).ownerInForce = (s.line n).owner then s.reports else (s.mark n).reports) := by
  refine (becomes_markIf n s (fun _ => (s.line n).charEnded c) _).as rfl ?_
  by_cases quiet : c.source = .nobody ∧ (s.line n).ownerInForce = (s.line n).owner
  · rw [if_pos quiet, quiet.1, quiet.2]
    cases (s.line n).owner <;> rfl
  · rw [if_neg quiet]
    have shown : (c.source != .nobody || (s.line n).ownerInForce != (s.line n).owner) = true := by
      rw [Bool.or_eq_true, bne_iff_ne, bne_iff_ne]
      exact not_and_or.1 quiet
    rw [shown]
    rfl

theorem exec_characterEnd {c : TxChar} (sending : (s.line n).tx = .sending c) : exec (.characterEnd n) s =
    .next (if c.source = .script then ((s.charEnded n c).startIfQueued n).sendEnded n
      else (s.charEnded n c).startIfQueued n).settlePort := by
  change execCharacterEnd n s = _
  unfold execCharacterEnd
  dsimp only
  rw [sending]
  rfl

theorem startIfQueued_starts (queued : (s.line n).run.state = .queued) (script : (s.line n).ownerInForce = .script) :
    s.startIfQueued n = follow n (s, some (s.line n).run.entry) := if_pos ⟨queued, script⟩

theorem startIfQueued_stays (no : (s.line n).run.state ≠ .queued ∨ (s.line n).ownerInForce ≠ .script) :
    s.startIfQueued n = s :=
  if_neg fun ⟨queued, script⟩ => no.elim (fun is => is queued) fun is => is script

/-- What the runner makes of a character's end. -/
theorem characterEnd_runs {c : TxChar} (sending : (s.line n).tx = .sending c) :
    let r := (s.line n).run
    let v := s.charEnded n c
    (c.source ≠ .script → (r.state ≠ .queued ∨ (s.line n).owner ≠ .script) →
      exec (.characterEnd n) s = .next v.settlePort) ∧
    (c.source ≠ .script → r.state = .queued → (s.line n).owner = .script →
      exec (.characterEnd n) s = .next (follow n (v, some r.entry)).settlePort) ∧
    (c.source = .script → r.state ≠ .queued → r.textOffset + 1 ≠ (s.step n).textLength.toNat →
      exec (.characterEnd n) s = .next v.settlePort) ∧
    (c.source = .script → r.state ≠ .queued → r.textOffset + 1 = (s.step n).textLength.toNat →
      exec (.characterEnd n) s = .next (v.actionEnded n .send none).settlePort) := by
  have row := exec_characterEnd sending
  have becomes := becomes_charEnded s n c
  have line := becomes.line
  have state : ((s.charEnded n c).line n).run.state = (s.line n).run.state := by rw [line, charEnded_run]
  have owner : ((s.charEnded n c).line n).ownerInForce = (s.line n).owner := by rw [line, charEnded_owner]
  have run : ((s.charEnded n c).line n).run =
      if c.source = .script then { (s.line n).run with textOffset := (s.line n).run.textOffset + 1 }
      else (s.line n).run := by rw [line, charEnded_eq]
  have step : (s.charEnded n c).step n = s.step n := by
    refine step_congr becomes.store ?_ ?_ <;> rw [run] <;> split <;> rfl
  refine ⟨fun other no => ?_, fun other queued script => ?_, fun script no more => ?_, fun script no last => ?_⟩
  · rw [row, if_neg other, startIfQueued_stays (by rw [state, owner]; exact no)]
  · rw [row, if_neg other, startIfQueued_starts (by rw [state]; exact queued) (by rw [owner]; exact script), run,
      if_neg other]
  · rw [row, if_pos script, startIfQueued_stays (by rw [state]; exact .inl no), State.sendEnded, run, if_pos script, step]
    rw [if_neg more]
  · rw [row, if_pos script, startIfQueued_stays (by rw [state]; exact .inl no), State.sendEnded, run, if_pos script, step]
    rw [if_pos last]

/-! ## The level of TXD (R15) -/

/-- A fold of exclusive or tells whether the number of ones is odd. -/
theorem foldl_xor (p : Nat → Bool) (xs : List Nat) (b : Bool) : (xs.map p).foldl xor b =
    decide (((xs.filter p).length + b.toNat) % 2 = 1) := by
  induction xs generalizing b with
  | nil => cases b <;> rfl
  | cons x xs ih =>
    rw [List.map_cons, List.foldl_cons, ih, List.filter_cons]
    cases p x
    · simp
    · cases b
      · simp
      · simp only [Bool.xor_true, Bool.not_true, Bool.toNat_false, Bool.toNat_true, if_true, List.length_cons]
        congr 1
        apply propext
        omega

/-- The data bits of a character, and how many there are. -/
def TxChar.width (c : TxChar) : Nat := match c.dataBits with | .seven => 7 | .eight => 8
def TxChar.data (c : TxChar) : List Bool := (List.range c.width).map fun k => c.byte.getLsbD k
def TxChar.parityBits (c : TxChar) : List Bool :=
  match c.parity with | .none => [] | .even => [c.data.foldl xor false] | .odd => [!c.data.foldl xor false]
def TxChar.stops (c : TxChar) : List Bool := match c.stopBits with | .one => [true] | .two => [true, true]

theorem bits_eq (c : TxChar) : c.bits = false :: (c.data ++ (c.parityBits ++ c.stops)) := by
  rw [← List.append_assoc]
  rfl

theorem data_length (c : TxChar) : c.data.length = c.width := by
  rw [TxChar.data, List.length_map, List.length_range]

theorem data_bit (c : TxChar) {k : Nat} (within : k < c.width) : c.data.getD k true = c.byte.getLsbD k := by
  have bound : k < c.data.length := by rw [data_length]; exact within
  rw [List.getD_eq_getElem _ _ bound]
  simp only [TxChar.data, List.getElem_map, List.getElem_range]

theorem stops_high (c : TxChar) (k : Nat) : c.stops.getD k true = true := by
  unfold TxChar.stops
  split
  · match k with
    | 0 => rfl
    | k + 1 => rfl
  · match k with
    | 0 => rfl
    | 1 => rfl
    | k + 2 => rfl

theorem getD_append_right' {xs ys : List Bool} {k : Nat} (beyond : xs.length ≤ k) :
    (xs ++ ys).getD k true = ys.getD (k - xs.length) true := List.getD_append_right _ _ _ _ beyond

theorem txd_sending {c : TxChar} (sending : (s.line n).tx = .sending c) (ticks : Nat) :
    s.txd n ticks = c.bits.getD (ticks / c.period) true := by
  rw [State.txd, sending]
  rfl

/-- The bits of a character, each at its place. -/
theorem bits_places (c : TxChar) (k : Nat) :
    (k = 0 → c.bits.getD k true = false) ∧
    (1 ≤ k → k ≤ c.width → c.bits.getD k true = c.byte.getLsbD (k - 1)) ∧
    (k = c.width + 1 → c.parityBits ≠ [] → c.bits.getD k true = c.parityBits.getD 0 true) ∧
    (c.width + c.parityBits.length < k → c.bits.getD k true = true) := by
  have length := data_length c
  rw [bits_eq]
  refine ⟨fun first => by rw [first]; rfl, fun from_ upTo => ?_, fun place some => ?_, fun beyond => ?_⟩
  · obtain ⟨k, rfl⟩ := Nat.exists_eq_add_of_le' from_
    rw [List.getD_cons_succ, List.getD_append _ _ _ _ (by omega), data_bit c (by omega)]
    rfl
  · have pos := List.length_pos_of_ne_nil some
    rw [place, List.getD_cons_succ, getD_append_right' length.le, length, Nat.sub_self, List.getD_append _ _ _ _ pos]
  · obtain ⟨k, rfl⟩ : ∃ j, k = j + 1 := ⟨k - 1, by omega⟩
    rw [List.getD_cons_succ, getD_append_right' (by omega), getD_append_right' (by omega)]
    exact stops_high c _

theorem data_odd (c : TxChar) : c.data.foldl xor false =
    decide (((List.range c.width).filter fun k => c.byte.getLsbD k).length % 2 = 1) := foldl_xor ..

/-- Settles O28: the start, the end and the bits of a character. -/
theorem characterSent : Obligations.CharacterSent := by
  refine ⟨fun n b s => ?start, fun n c s => ?ends, fun n ticks s => ⟨?high, ?low, fun c sending => ?bits⟩⟩
  case start =>
    intro l sending on idle free
    refine ⟨fun operators staged => characterStart_ready on idle free ?_,
      fun script acting begun send left text => characterStart_ready on idle free ?_,
      fun nobody => characterStart_stays on idle free (readyByte_free nobody _),
      fun operators empty => characterStart_stays on idle free ?_,
      fun script none => characterStart_stays on idle free ?_⟩
    · rw [readyByte_operators operators, staged]
      rfl
    · rw [readyByte_script script, sendByte_some acting begun send left, text]
      rfl
    · rw [readyByte_operators operators, empty]
      rfl
    · rw [readyByte_script script, sendByte_none none]
      rfl
  case ends =>
    intro l r gap tx staged ended reports stays sending
    obtain ⟨other, queued, more, last⟩ := characterEnd_runs sending
    have becomes : LineBecomes n s (s.charEnded n c) ended reports := by
      refine (becomes_charEnded s n c).as_line ?_
      rw [charEnded_eq, afterChar_eq] <;> rfl
    exact ⟨fun source no => ⟨_, other source no, becomes⟩, fun source is script => ⟨_, becomes, queued source is script⟩,
      fun source no not => ⟨_, more source no not, becomes⟩, fun source no is => ⟨_, becomes, last source no is⟩⟩
  case high =>
    rintro (is | is | ⟨k, is⟩) <;> rw [State.txd, is] <;> rfl
  case low =>
    intro is
    rw [State.txd]
    cases tx : (s.line n).tx with
    | brk b k => rfl
    | idle => rw [tx] at is; cases is
    | gap k => rw [tx] at is; cases is
    | held => rw [tx] at is; cases is
    | sending c => rw [tx] at is; cases is
  case bits =>
    intro w p ones bit
    obtain ⟨first, data, parity, rest⟩ := bits_places c bit
    have level : s.txd n ticks = c.bits.getD bit true := txd_sending sending ticks
    have parityLength : c.parityBits.length = p := by
      unfold TxChar.parityBits
      cases parity : c.parity <;> simp [p, parity]
    rw [level]
    refine ⟨first, data, fun place even => ?_, fun place odd => ?_, fun beyond => rest ?_, ?_⟩
    · have bits : c.parityBits = [c.data.foldl xor false] := by
        unfold TxChar.parityBits
        rw [even]
      rw [parity place (by rw [bits]; exact List.cons_ne_nil _ _), bits]
      exact data_odd c
    · have bits : c.parityBits = [!c.data.foldl xor false] := by
        unfold TxChar.parityBits
        rw [odd]
      have flip : decide (ones % 2 = 0) = !decide (ones % 2 = 1) := by
        rcases Nat.mod_two_eq_zero_or_one ones with is | is <;> rw [is] <;> rfl
      rw [parity place (by rw [bits]; exact List.cons_ne_nil _ _), bits, flip]
      exact congrArg Bool.not (data_odd c)
    · rw [parityLength]
      exact beyond
    · have wide : c.data.length = w := data_length c
      have total : c.bits.length = 1 + w + p + c.stops.length := by
        rw [bits_eq, List.length_cons, List.length_append, List.length_append, wide, parityLength]
        omega
      rw [TxChar.ticks, total]
      unfold TxChar.stops
      cases c.stopBits <;> rfl

/-! ## The timers of a line (R16, R18, R20, R135) -/

theorem afterBreak_next {l : Line} {d : BreakOrder} {rest : List BreakOrder} (waiting : l.breaks = d :: rest) :
    l.afterBreak = { l with tx := .brk d (timerStart d.length), breaks := rest } := by
  unfold Line.afterBreak
  rw [waiting]
  rfl

theorem afterBreak_last {l : Line} (none : l.breaks = []) : l.afterBreak = { l with
    tx := if l.flowHeld then .held else if l.settings.charGap = 0 then .idle
      else .gap (timerStart l.settings.charGap) } := by
  unfold Line.afterBreak
  rw [none]
  rfl

/-- Where the transmitter goes as a break ends, and the breaks that still wait. -/
theorem afterBreak_eq (l : Line) : l.afterBreak = { l with
    breaks := l.breaks.tail
    tx := match l.breaks with
      | d :: _ => .brk d (timerStart d.length)
      | [] => if l.flowHeld then .held else if l.settings.charGap = 0 then .idle
        else .gap (timerStart l.settings.charGap) } := by
  unfold Line.afterBreak
  cases breaks : l.breaks with
  | cons d rest => rfl
  | nil =>
    dsimp only
    rw [List.tail_nil, ← breaks]
    rfl

theorem exec_gapExpiry {k : Timer} (gap : (s.line n).tx = .gap k) (due : timerDue k = true) :
    exec (.gapExpiry n) s = .next (s.modLine n fun l => { l with tx := .idle }).settlePort := by
  change execGapExpiry n s = _
  unfold execGapExpiry
  rw [gap]
  exact if_pos due

theorem exec_breakTimerExpiry {b : BreakOrder} {k : Timer} (sending : (s.line n).tx = .brk b k)
    (due : timerDue k = true) : exec (.breakTimerExpiry n) s =
      .next (if b.byStep then (s.modLine n Line.afterBreak).actionEnded n .brk none
        else s.modLine n Line.afterBreak).settlePort := by
  change execBreakTimerExpiry n s = _
  unfold execBreakTimerExpiry
  rw [sending]
  exact if_pos due

/-- The state as a pulse has expired, before a runner hears of it. -/
def State.pulseEnded (s : State) (n : LineNo) : State :=
  (s.modLine n fun l => { l with out := l.out.expire s.now }).raise n .outputDone

theorem becomes_pulseEnded (s : State) (n : LineNo) : LineBecomes n s (s.pulseEnded n) { s.line n with
    out := { (s.line n).out with state := .rest, time := s.clock.ms, timer := none, ended := .expired } }
    (s.raise n .outputDone).reports := becomes_raise n s _ _

theorem exec_pulseTimerExpiry (pulsing : (s.line n).out.state = .pulsing) (due : timerDue (s.line n).out.timer = true) :
    exec (.pulseTimerExpiry n) s = .next ((s.pulseEnded n).actionEnded n .pulse none).settlePort :=
  if_pos ⟨pulsing, due⟩

/-- Settles O29: each timer's row, with what the runner is told. -/
theorem lineTimersExpire : Obligations.LineTimersExpire := by
  intro n s
  refine ⟨fun k gap due => ⟨_, exec_gapExpiry gap due, becomes_modLine n s _⟩, fun held due => ?hold,
    fun b k sending due own => ⟨fun d rest waiting => ?next, fun none => ?last⟩, fun b k sending due step => ?step,
    fun pulsing due => ⟨_, becomes_pulseEnded s n, exec_pulseTimerExpiry pulsing due⟩, fun pulsing due idle => ?pulse⟩
  case hold =>
    refine ⟨_, if_pos ⟨held, due⟩, (becomes_mark n s Line.clearHold).as_line ?_⟩
    exact clearHold_held held
  case next =>
    refine ⟨_, exec_breakTimerExpiry sending due, ?_⟩
    rw [if_neg (Bool.eq_false_iff.1 own)]
    exact (becomes_modLine n s Line.afterBreak).as_line (afterBreak_next waiting)
  case last =>
    refine ⟨_, exec_breakTimerExpiry sending due, ?_⟩
    rw [if_neg (Bool.eq_false_iff.1 own)]
    exact (becomes_modLine n s Line.afterBreak).as_line (afterBreak_last none)
  case step =>
    exact ⟨s.modLine n Line.afterBreak, (becomes_modLine n s Line.afterBreak).as_line (afterBreak_eq _),
      (exec_breakTimerExpiry sending due).trans (settled (if_pos step))⟩
  case pulse =>
    have becomes := becomes_pulseEnded s n
    refine ⟨s.pulseEnded n, ?_, becomes⟩
    rw [exec_pulseTimerExpiry pulsing due, actionEnded_of_idle]
    rw [becomes.line]
    exact idle

end

end Sys2Proof.Machine
end

section
/-! SUPPORT. The grant of the bus (R176), the end of a start (R187) and of a stop (R192), and the outbound fetch (R147
to R149). -/

namespace Sys2Proof.Machine

section
variable {s : State} {n : LineNo}

/-! ## The grant (R176) -/

/-- Settles O50: the row's three cases, by the pin's level and the bus. -/
theorem busGrant : Obligations.BusGrant := by
  refine fun s => ⟨fun high => if_pos high, fun low idle => ?_, fun low requesting => ?_, rfl⟩
  · exact (if_neg (Bool.eq_false_iff.1 low)).trans (if_neg idle)
  · exact (if_neg (Bool.eq_false_iff.1 low)).trans (if_pos requesting)

/-! ## The stop's wind-up (R192) -/

theorem all_lines {p : LineNo → Bool} : (List.finRange 32).all p = true ↔ ∀ n, p n = true := by
  rw [List.all_eq_true]
  exact ⟨fun h n => h n (List.mem_finRange n), fun h n _ => h n⟩

theorem recordDirty_line (s : State) (n : LineNo) :
    s.recordDirty (.line n) = (decide (n.val < s.linesInUse) && s.reports.dirty.get n) := rfl

/-- What the wind-up waits for. -/
theorem woundUp_of (stopping : s.ctl.part = .stopping) (waits : s.ctl.windUp = false) (none : s.port.inFlight = none)
    (quiet : ∀ n : LineNo, (s.line n).cap.fifo = [] ∧ (s.line n).tx.isSending = false)
    (clean : s.port.flag = true ∨
      s.reports.headerDirty = false ∧ ∀ n : LineNo, n.val < s.linesInUse → s.reports.dirty.get n = false) :
    s.woundUp = true := by
  have lines : (List.finRange 32).all (fun n => (s.line n).cap.fifo.isEmpty && !(s.line n).tx.isSending) = true :=
    all_lines.2 fun n => by
      obtain ⟨empty, silent⟩ := quiet n
      rw [empty, silent]
      rfl
  have written : (s.port.flag || (!s.reports.headerDirty &&
      (List.finRange 32).all (fun n => !s.recordDirty (.line n)))) = true := by
    rcases clean with flag | ⟨header, dirty⟩
    · rw [flag]
      rfl
    · have all : (List.finRange 32).all (fun n => !s.recordDirty (.line n)) = true := all_lines.2 fun n => by
        rw [recordDirty_line]
        by_cases used : n.val < s.linesInUse
        · rw [dirty n used, Bool.and_false]
          rfl
        · rw [decide_eq_false used]
          rfl
      rw [header, all, Bool.or_eq_true]
      exact .inr rfl
  unfold State.woundUp
  rw [stopping, waits, none, lines, written]
  rfl

/-- The control state once the wind-up is complete. -/
def State.windUpControl (s : State) : Control :=
  if s.port.flag then { s.ctl with part := .halted } else { s.ctl with windUp := true }

theorem exec_stopWindUpComplete (wound : s.woundUp = true) : exec .stopWindUpComplete s =
    .next ({ s.raiseStation .stopped with ctl := s.windUpControl } : State).settlePort := if_pos wound

theorem headerPart_head (s : State) :
    (headerPart s).head? = some (BitVec.ofNat 8 (if s.ctl.windUp then PartState.halted else s.ctl.part).code) := rfl

/-- Settles O49: the row's guard holds, and its effect by the Fault Flag. -/
theorem stopWindsUp : Obligations.StopWindsUp := by
  intro s stopping waits none quiet clean
  refine ⟨_, exec_stopWindUpComplete (woundUp_of stopping waits none quiet clean), rfl, fun flag => if_pos flag,
    fun clear => ?_⟩
  have ctl : s.windUpControl = { s.ctl with windUp := true } := if_neg (Bool.eq_false_iff.1 clear)
  refine ⟨ctl, ?_⟩
  rw [headerPart_head, ctl]
  rfl

/-! ## The end of a start (R187) -/

theorem clamp_eq {lo hi : Nat} (ordered : lo ≤ hi) (v : Nat) : clamp lo hi v = max lo (min hi v) := by
  unfold clamp
  split
  · omega
  · split <;> omega

theorem exec_startHeaderReadComplete {bs : List Byte} {t : Transaction} (full : bs.length = 128)
    (inFlight : s.port.inFlight = some t) (job : t.job = .startHeader) : exec (.startHeaderReadComplete bs) s =
      if t.stale then .next s.completed.settlePort else .next (s.completed.actOnStart (headerHostOf bs)).settlePort := by
  change execStartHeaderReadComplete bs s = _
  unfold execStartHeaderReadComplete
  rw [inFlight]
  exact (if_pos ⟨job, full⟩).trans (by cases t.stale <;> rfl)

theorem latch_dirty (r : Reports) (lines : Nat) (n : LineNo) :
    (r.latch lines).dirty.get n = (r.dirty.get n && decide (n.val < lines)) :=
  Vector.getElem_ofFn (f := fun n : LineNo => r.dirty.get n && decide (n.val < lines)) n.isLt

theorem latch_held (r : Reports) (lines : Nat) (n : LineNo) :
    (r.latch lines).held.get n = if n.val < lines then r.held.get n else 0 :=
  Vector.getElem_ofFn (f := fun n : LineNo => if n.val < lines then r.held.get n else 0) n.isLt

theorem heldStation_started (s : State) (h : HeaderHost) :
    (((s.started h).takeMasks h).markHeader).reports.heldStation = s.reports.heldStation := by
  dsimp only [State.started, State.takeMasks, State.markHeader, Reports.latch]

/-- The first sweep begins in the event of the start, the Fault Flag being clear. -/
theorem actOnStart_sweeps (clear : s.port.flag = false) (h : HeaderHost) : s.actOnStart h =
    { (((s.started h).takeMasks h).markHeader) with scan := { (s.started h).scan with
      pending := false, position := some .header } } := by
  rw [actOnStart_eq]
  exact startSweep_starts (sweepMayStart_iff.2 ⟨rfl, rfl, rfl, clear⟩)

/-- Settles O48: the start is taken whole, and its first sweep begins. -/
theorem startCompletes : Obligations.StartCompletes := by
  intro bs t s full inFlight job clear h lines i port
  have row := exec_startHeaderReadComplete full inFlight job
  refine ⟨fun stale => ⟨_, row.trans (if_pos stale), rfl⟩, fun fresh => ?_⟩
  refine ⟨_, row.trans (if_neg (Bool.eq_false_iff.1 fresh)), ?_⟩
  have still : s.completed.port.flag = false := clear
  have linesClamped : lines = clamp 1 32 h.linesInUse.toNat := (clamp_eq (by decide) _).symm
  have intervalClamped : i = clamp 1 1000 h.interval.toNat := (clamp_eq (by decide) _).symm
  clear_value lines i
  subst lines i
  rw [actOnStart_sweeps still]
  refine ⟨rfl, rfl, rfl, rfl, rfl, rfl, rfl, rfl, rfl, rfl, rfl, rfl, heldStation_started s.completed h, fun n => ⟨fun used => ?_, fun beyond => ?_⟩⟩
  · exact ⟨(latch_dirty ..).trans (by rw [decide_eq_true used]; exact Bool.and_true _),
      (latch_held ..).trans (if_pos used)⟩
  · have out : ¬n.val < clamp 1 32 h.linesInUse.toNat := Nat.not_lt.2 beyond
    exact ⟨(latch_dirty ..).trans (by rw [decide_eq_false out]; exact Bool.and_false _),
      (latch_held ..).trans (if_neg out)⟩

/-! ## The outbound fetch (R147 to R149) -/

theorem exec_outboundFetchComplete {bs : List Byte} {t : Transaction} (inFlight : s.port.inFlight = some t)
    (job : t.job = .fetch n) (full : bs.length = t.length) : exec (.outboundFetchComplete bs) s =
      .next (if t.stale then s.completed else s.completed.placeFetch n bs).settlePort := by
  change execOutboundFetchComplete bs s = _
  unfold execOutboundFetchComplete
  rw [inFlight]
  dsimp only
  rw [job]
  exact if_pos full

/-- Settles O53: the pending length and the transaction as they are defined, and the completion by its two guards. -/
theorem outboundFetch : Obligations.OutboundFetch := by
  intro n bs t s l size f done
  refine ⟨rfl, rfl, rfl, fun inFlight job full => ?_⟩
  have row := exec_outboundFetchComplete inFlight job full
  refine ⟨fun fresh on operators => ?_, fun lost => ?_⟩
  · refine ⟨_, row.trans (settled (if_neg (Bool.eq_false_iff.1 fresh))), ?_⟩
    have placed : s.completed.placeFetch n bs =
        s.completed.modLine n fun l => { l with staging := bs.take l.pendingLength } :=
      if_pos ⟨on, (isOperators_iff _).2 operators⟩
    rw [placed]
    exact becomes_modLine n s.completed _
  · rw [row]
    refine settled ?_
    by_cases stale : t.stale = true
    · exact if_pos stale
    · refine (if_neg stale).trans (if_neg ?_)
      rintro ⟨on, operators⟩
      rcases lost with is | is | is
      · exact stale is
      · exact is on
      · exact nomatch ((notOperators_iff _).2 is).symm.trans operators

end

end Sys2Proof.Machine
end

section
/-! SUPPORT. The station's requests and the header read of a sweep (R93, R94, R164), and the request slot of a line
(R168). -/

namespace Sys2Proof.Machine

/-! ## Arguments as they are clamped -/

theorem breakLength_eq (v : Nat) : breakLength v = max 10 (min 5000 v) := clamp_eq (by decide) v
theorem pulseWidth_eq (v : Nat) : pulseWidth v = max 10 (min 60000 v) := clamp_eq (by decide) v
theorem clamp_zero (hi v : Nat) : clamp 0 hi v = min hi v := (clamp_eq (Nat.zero_le hi) v).trans (Nat.zero_max _)
theorem postCount_eq (v : Nat) : postCount v = min 65535 v := clamp_zero ..

section
variable {s t : State} {n : LineNo}

/-! ## LOAD (R93, R94) -/

theorem judgeStation_badAddress (s : State) {block source : Word} (fits : block.toNat < 16)
    (off : source.toNat % 64 ≠ 0) : judgeStation s true block source = .error .badAddress := by
  rw [judgeStation, dif_pos fits, if_pos ⟨rfl, off⟩]

theorem judgeLoad_badBlock (s : State) {block : Word} (source : Word) (beyond : 16 ≤ block.toNat) :
    s.judgeLoad block source = (s, .badBlock) := by
  rw [State.judgeLoad, judgeStation_badBlock s true source beyond]

theorem judgeLoad_badAddress (s : State) {block source : Word} (fits : block.toNat < 16)
    (off : source.toNat % 64 ≠ 0) : s.judgeLoad block source = (s, .badAddress) := by
  rw [State.judgeLoad, judgeStation_badAddress s fits off]

theorem judgeLoad_inUse {block source : Word} (fits : block.toNat < 16) (aligned : source.toNat % 64 = 0)
    (used : (s.block ⟨block.toNat, fits⟩).useCount ≠ 0) : s.judgeLoad block source = (s, .inUse) := by
  rw [State.judgeLoad, judgeStation_useCount s true fits fun _ => aligned, if_pos used]

theorem judgeLoad_accepted {block source : Word} (fits : block.toNat < 16) (aligned : source.toNat % 64 = 0)
    (unused : (s.block ⟨block.toNat, fits⟩).useCount = 0) :
    s.judgeLoad block source = (s.acceptLoad ⟨block.toNat, fits⟩ source, .accepted) := by
  rw [State.judgeLoad, judgeStation_useCount s true fits fun _ => aligned, if_neg (not_not.2 unused)]

/-- The judgement of a LOAD reaches the store and the header's mark alone. -/
theorem judgeLoad_keeps (s : State) (block source : Word) : (s.judgeLoad block source).1.lines = s.lines ∧
    (s.judgeLoad block source).1.scan = s.scan ∧
    (s.judgeLoad block source).1.markHeader.reports = s.markHeader.reports := by
  rw [State.judgeLoad]
  cases judgeStation s true block source with
  | ok b => exact ⟨rfl, rfl, rfl⟩
  | error r => exact ⟨rfl, rfl, rfl⟩

/-- A block once a LOAD of it is accepted. -/
def Block.loading (k : Block) : Block :=
  { k with state := .loading, stepCount := 0, patternCount := 0, steps := [], patterns := [] }

theorem block_acceptLoad_self (s : State) (b : BlockNo) (source : Word) : (s.acceptLoad b source).block b =
    { s.block b with state := .loading, stepCount := 0, patternCount := 0, steps := [], patterns := [] } :=
  block_modBlock_self s b Block.loading

theorem block_acceptLoad_ne (s : State) {b c : BlockNo} (source : Word) (apart : c ≠ b) :
    (s.acceptLoad b source).block c = s.block c :=
  block_modBlock_ne s Block.loading apart

theorem exec_loadRequest (tag block source : Word) (taken : s.takesStation = true) :
    exec (.loadRequest tag block source) s =
      .next (State.recordStationResult tag (s.judgeLoad block source)).settlePort := if_pos taken

theorem takesStation_flagged (flag : s.port.flag = true) : s.takesStation = false := by
  rw [State.takesStation, flag]
  exact Bool.and_false _

/-- Settles O36: the judgement by its first test that applies, and what every judgement leaves. -/
theorem loadRequest : Obligations.LoadRequest := by
  intro tag block source s running idle
  obtain ⟨lines, scan, reports⟩ := judgeLoad_keeps s block source
  refine ⟨fun flag => if_neg (Bool.eq_false_iff.1 (takesStation_flagged flag)), fun clear =>
    ⟨_, exec_loadRequest tag block source (takesStation_of_idle running idle clear), lines, ?_, ?_, fun beyond => ?_,
      fun fits => ⟨fun off => ?_, fun aligned used => ?_, fun aligned unused => ?_⟩⟩⟩
  · rw [recordStationResult_scan, scan]
  · rw [recordStationResult_reports, reports]
    rfl
  · rw [judgeLoad_badBlock s source beyond]
    exact ⟨rfl, rfl⟩
  · rw [judgeLoad_badAddress s fits off]
    exact ⟨rfl, rfl⟩
  · rw [judgeLoad_inUse fits aligned used]
    exact ⟨rfl, rfl⟩
  · rw [judgeLoad_accepted fits aligned unused]
    exact ⟨rfl, block_acceptLoad_self .., fun c apart => block_acceptLoad_ne s source apart, rfl, rfl⟩

/-! ## The station's request slot (R168) -/

theorem judgeStationRequest_load {h : HeaderHost} (code : h.code = 1) :
    s.judgeStationRequest h = s.judgeLoad h.blockIndex h.source := by
  unfold State.judgeStationRequest
  rw [code]
  rfl

theorem judgeStationRequest_unload {h : HeaderHost} (code : h.code = 2) :
    s.judgeStationRequest h = s.judgeUnload h.blockIndex := by
  unfold State.judgeStationRequest
  rw [code]
  rfl

theorem judgeStationRequest_unknown {h : HeaderHost} (load : h.code ≠ 1) (unload : h.code ≠ 2) :
    s.judgeStationRequest h = (s, .unknownCode) := by
  unfold State.judgeStationRequest
  split
  next one => exact absurd (BitVec.eq_of_toNat_eq one) load
  next two => exact absurd (BitVec.eq_of_toNat_eq two) unload
  next => rfl

theorem examineStation_first {h : HeaderHost} (unset : s.scan.tag = none) : s.examineStation h =
    ({ s with scan := { s.scan with tag := some h.tag, result := .none } } : State).markHeader := by
  unfold State.examineStation
  rw [unset]

theorem examineStation_waits {h : HeaderHost}
    (waits : s.scan.tag = some h.tag ∨ s.scan.tag ≠ none ∧ s.store.loader.isSome = true) : s.examineStation h = s := by
  unfold State.examineStation
  rcases waits with same | ⟨set, busy⟩
  · rw [same]
    exact if_pos rfl
  · obtain ⟨tag, set⟩ := Option.ne_none_iff_exists'.1 set
    rw [set]
    exact (if_congr Iff.rfl rfl (if_pos busy)).trans (ite_self s)

theorem examineStation_judges {h : HeaderHost} (set : s.scan.tag ≠ none) (new : s.scan.tag ≠ some h.tag)
    (idle : s.store.loader = none) :
    s.examineStation h = State.recordStationResult h.tag (s.judgeStationRequest h) := by
  obtain ⟨tag, is⟩ := Option.ne_none_iff_exists'.1 set
  have apart : tag ≠ h.tag := fun same => new (is.trans (congrArg some same))
  unfold State.examineStation
  rw [is, idle]
  exact (if_neg apart).trans (if_neg nofun)

/-! ## The header read of a sweep (R164) -/

/-- The state as a header's interval and masks are taken, before its request slot is examined. -/
def State.headerTaken (s : State) (h : HeaderHost) (i : Nat) : State := { s with
  scan := { s.scan with interval := i }
  notices := { s.notices with lineMask := h.lineMask.truncate 12, stationMask := h.stationMask.truncate 4 }
  reports := { s.reports with headerDirty := s.reports.headerDirty || s.scan.interval != i } }

theorem actOnHeader_eq (s : State) (h : HeaderHost) :
    s.actOnHeader h = (s.headerTaken h (clamp 1 1000 h.interval.toNat)).examineStation h := by
  unfold State.actOnHeader State.headerTaken
  dsimp only
  generalize clamp 1 1000 h.interval.toNat = i
  by_cases same : i = s.scan.interval
  · rw [if_pos same, ← same, bne_self_eq_false, Bool.or_false]
    rfl
  · rw [if_neg same, bne_iff_ne.2 fun is => same is.symm, Bool.or_true]
    rfl

theorem exec_headerReadComplete {bs : List Byte} {t : Transaction} (full : bs.length = 128)
    (inFlight : s.port.inFlight = some t) (job : t.job = .sweepHeader) : exec (.headerReadComplete bs) s =
      if t.stale then .next s.completed.settlePort
      else .next (({ s.completed with scan := { s.scan with position := some (.line 0) } } : State).actOnHeader
        (headerHostOf bs)).settlePort := by
  change execHeaderReadComplete bs s = _
  unfold execHeaderReadComplete
  rw [inFlight]
  exact (if_pos ⟨job, full⟩).trans (by cases t.stale <;> rfl)

/-- Settles O35: the header's read is one update and the examination of the slot, taken by its cases. -/
theorem headerReadCompletes : Obligations.HeaderReadCompletes := by
  refine ⟨fun bs t s full inFlight job => ?_, fun bs => rfl⟩
  intro h i port taken
  have interval : clamp 1 1000 h.interval.toNat = i := clamp_eq (by decide) _
  have row := exec_headerReadComplete full inFlight job
  refine ⟨fun stale => row.trans (if_pos stale), fun fresh => ?_⟩
  have examined : exec (.headerReadComplete bs) s = .next (taken.examineStation h).settlePort := by
    rw [row, if_neg (Bool.eq_false_iff.1 fresh), actOnHeader_eq, interval]
    rfl
  rw [examined]
  refine ⟨fun unset => settled (examineStation_first (s := taken) unset), fun waits => settled
    (examineStation_waits (s := taken) waits), fun set new idle => ?_⟩
  rw [examineStation_judges (s := taken) set new idle]
  refine ⟨fun load unload => settled ?_, fun running clear => ?_⟩
  · rw [judgeStationRequest_unknown load unload]
    rfl
  · have takes : taken.takesStation = true := takesStation_of_idle (s := taken) running idle clear
    refine ⟨fun code => ?_, fun code => ?_⟩
    · rw [judgeStationRequest_load code, exec_loadRequest _ _ _ takes]
    · rw [judgeStationRequest_unload code, exec_unloadRequest _ _ takes]

end

end Sys2Proof.Machine
end

section
/-! SUPPORT. The request slot of a line (R168), and the requests that touch the transmitter, the output, the settings,
the Rate Finder and the trigger (R140, R154 to R156). -/

namespace Sys2Proof.Machine

section
variable {s t : State} {n : LineNo} {l : Line} {r : Reports}

/-! ## The record of a request (R168) -/

theorem takes_of (running : s.ctl.part = .running) (used : n.val < s.linesInUse) : s.takes n = true := by
  unfold State.takes State.inUse
  rw [running, decide_eq_true used]
  rfl

theorem isOn_of_on (on : (s.line n).status = .on) : s.isOn n = true := by
  unfold State.isOn
  rw [on]
  rfl

theorem isOn_of_off (off : (s.line n).status ≠ .on) : s.isOn n = false := by
  rw [State.isOn, beq_eq_false_iff_ne]
  exact off

/-- What is judged only on a line that is ON. -/
theorem unlessOn_off {α : Type} (off : (s.line n).status ≠ .on) (x y : α) : (if !s.isOn n then x else y) = x := by
  rw [isOn_of_off off]
  rfl

theorem unlessOn_on {α : Type} (on : (s.line n).status = .on) (x y : α) : (if !s.isOn n then x else y) = y := by
  rw [isOn_of_on on]
  rfl

/-- A cause raised over a mark leaves the reports as the cause alone does. -/
theorem raise_after_mark (c : LineCause) (reports : t.reports = s.reports ∨ t.reports = (s.mark n).reports) :
    (t.raise n c).reports = (s.raise n c).reports := by
  unfold State.raise
  dsimp only
  rcases reports with same | marked
  · rw [same]
  · rw [marked, State.mark]
    dsimp only
    rw [Vector.set_set]

theorem becomes_recordResult (tag : Word) {p : State × ReqResult} (judged : LineBecomes n s p.1 l r)
    (reports : r = s.reports ∨ r = (s.mark n).reports) : LineBecomes n s (State.recordResult n tag p)
      { l with takenTag := some tag, result := p.2 } (s.raise n .requestTaken).reports := by
  obtain ⟨line, is, others, shared⟩ :=
    judged.trans (becomes_raise n p.1 (fun l => { l with takenTag := some tag, result := p.2 }) .requestTaken)
  refine ⟨line.trans (by rw [judged.line]), is.trans ?_, others, shared⟩
  exact raise_after_mark _ (by rw [judged.reports]; exact reports)

/-- A request whose judgement is an event of its line. -/
theorem request_becomes {cmd : Instr} {tag : Word} {p q : State × ReqResult}
    (row : exec cmd s = .next (State.recordResult n tag p).settlePort) (is : p = q) (judged : LineBecomes n s q.1 l r)
    (reports : r = s.reports ∨ r = (s.mark n).reports) : ∃ u : State, exec cmd s = .next u.settlePort ∧
      LineBecomes n s u { l with takenTag := some tag, result := q.2 } (s.raise n .requestTaken).reports := by
  subst is
  exact ⟨_, row, becomes_recordResult tag judged reports⟩

/-- A request refused: nothing but its record changes. -/
theorem request_refused {cmd : Instr} {tag : Word} {p : State × ReqResult} {why : ReqResult}
    (row : exec cmd s = .next (State.recordResult n tag p).settlePort) (is : p = (s, why)) :
    ∃ u : State, exec cmd s = .next u.settlePort ∧
      LineBecomes n s u { s.line n with takenTag := some tag, result := why } (s.raise n .requestTaken).reports :=
  request_becomes row is (becomes_same n s) (.inl rfl)

/-! ## The request slot (R168) -/

theorem examineSlot_first {h : LineHost} (unset : (s.line n).takenTag = none) : s.examineSlot n h =
    (s.modLine n fun l => { l with takenTag := some h.tag, result := .none }).mark n := by
  unfold State.examineSlot
  rw [unset]

theorem examineSlot_again {h : LineHost} (same : (s.line n).takenTag = some h.tag) : s.examineSlot n h = s := by
  unfold State.examineSlot
  rw [same]
  exact if_pos rfl

theorem examineSlot_new {h : LineHost} {tag : Word} (set : (s.line n).takenTag = some tag) (new : tag ≠ h.tag) :
    s.examineSlot n h = State.recordResult n h.tag (s.judgeRequest n h) := by
  unfold State.examineSlot
  rw [set]
  exact if_neg new

theorem judgeRequest_unknown {h : LineHost} (unknown : h.code.toNat = 0 ∨ 13 < h.code.toNat) :
    s.judgeRequest n h = (s, .unknownCode) := by
  unfold State.judgeRequest
  split
  any_goals omega
  rfl

/-- A row of a request carries out what the slot's examination does for its code. -/
theorem row_of_code {h : LineHost} {cmd : Instr} {p : State × ReqResult}
    (row : exec cmd s = .next (State.recordResult n h.tag p).settlePort) (judged : s.judgeRequest n h = p)
    (examined : s.examineSlot n h = State.recordResult n h.tag (s.judgeRequest n h)) :
    exec cmd s = .next (s.examineSlot n h).settlePort := by
  rw [examined, judged, row]

/-! ## The sweep moves on (R163, R166) -/

theorem sweepOn_next (below : n.val + 1 < 32) (used : n.val + 1 < s.linesInUse) : s.sweepOn n =
    { s with scan := { s.scan with position := some (.line ⟨n.val + 1, below⟩) } } := by
  rw [State.sweepOn, dif_pos below, if_pos used]

theorem sweepOn_ends (last : s.linesInUse ≤ n.val + 1 ∨ n.val = 31) : s.sweepOn n = s.endSweep := by
  unfold State.sweepOn
  split
  · exact if_neg (by omega)
  · rfl

theorem endSweep_eq (s : State) : s.endSweep = { s with
    reports := { s.reports with headerDirty := true }
    scan := (if s.scan.pending = true ∧ s.ctl.part = .running ∧ s.port.flag = false then
      { s.scan with pending := false, position := some .header, lastTime := s.clock.ms }
      else { s.scan with position := none, lastTime := s.clock.ms }) } := by
  by_cases starts : s.scan.pending = true ∧ s.ctl.part = .running ∧ s.port.flag = false
  · obtain ⟨pending, running, clear⟩ := starts
    rw [if_pos ⟨pending, running, clear⟩]
    exact startSweep_starts (s := ({ s with scan := { s.scan with position := none, lastTime := s.now } } : State).markHeader)
      (sweepMayStart_iff.2 ⟨pending, rfl, running, clear⟩)
  · rw [if_neg starts]
    refine startSweep_waits (s := ({ s with scan := { s.scan with position := none, lastTime := s.now } } : State).markHeader)
      (Bool.eq_false_iff.2 fun may => starts ?_)
    obtain ⟨pending, _, running, clear⟩ := sweepMayStart_iff.1 may
    exact ⟨pending, running, clear⟩

theorem exec_unknownStationCode (tag : Word) {code : Word} (takes : s.takesStation = true) (load : code ≠ 1)
    (unload : code ≠ 2) : exec (.unknownStationCode tag code) s =
      .next (State.recordStationResult tag (s, .unknownCode)).settlePort := by
  have unknown : code.toNat = 0 ∨ 2 < code.toNat := by bv_omega
  refine if_pos ?_
  rw [takes, decide_eq_true unknown]
  rfl

theorem exec_unknownCodeRequest (tag : Word) {code : Word} (takes : s.takes n = true)
    (unknown : code.toNat = 0 ∨ 13 < code.toNat) : exec (.unknownCodeRequest n tag code) s =
      .next (State.recordResult n tag (s, .unknownCode)).settlePort := by
  refine if_pos ?_
  rw [takes, decide_eq_true unknown]
  rfl

/-- Settles O38: the two unknown codes, the slot by its tag and its code, and the sweep's next record. -/
theorem unknownCodes : Obligations.UnknownCodes := by
  refine ⟨fun tag code s running => ⟨fun idle clear load unload => ?station, fun n used unknown => ?line⟩, fun n h s =>
    ⟨fun unset => ?first, examineSlot_again, fun tag set new running used => ?codes, fun below used =>
      sweepOn_next below used, fun last => (sweepOn_ends last).trans (endSweep_eq s)⟩⟩
  case station =>
    exact ⟨_, exec_unknownStationCode tag (takesStation_of_idle running idle clear) load unload, rfl⟩
  case line => exact request_refused (exec_unknownCodeRequest tag (takes_of running used) unknown) rfl
  case first =>
    rw [examineSlot_first unset]
    exact becomes_mark n s _
  case codes =>
    have takes := takes_of running used
    have examined := examineSlot_new set new
    have judged : ∀ k, h.code.toNat = k → s.judgeRequest n h = match k with
        | 1 => s.judgeStart n h.argA h.argB
        | 2 => s.judgePause n
        | 3 => s.judgeResume n
        | 4 => s.judgeAbort n
        | 5 => s.judgeBreak n h.argA
        | 6 => s.judgePulse n h.argA
        | 7 => s.judgeDrive n .active
        | 8 => s.judgeDrive n .rest
        | 9 => s.judgeApply n h
        | 10 => s.judgeDetect n
        | 11 => s.judgeArm n h.argA h.trigger
        | 12 => s.judgeDisarm n
        | 13 => s.judgeThaw n
        | _ => (s, .unknownCode) := by
      rintro k rfl
      rfl
    exact ⟨fun code => row_of_code (if_pos takes) (judged 1 code) examined,
      fun code => row_of_code (if_pos takes) (judged 2 code) examined,
      fun code => row_of_code (if_pos takes) (judged 3 code) examined,
      fun code => row_of_code (if_pos takes) (judged 4 code) examined,
      fun code => row_of_code (if_pos takes) (judged 5 code) examined,
      fun code => row_of_code (if_pos takes) (judged 6 code) examined,
      fun code => row_of_code (if_pos takes) (judged 7 code) examined,
      fun code => row_of_code (if_pos takes) (judged 8 code) examined,
      fun code => row_of_code (if_pos takes) (judged 9 code) examined,
      fun code => row_of_code (if_pos takes) (judged 10 code) examined,
      fun code => row_of_code (if_pos takes) (judged 11 code) examined,
      fun code => row_of_code (if_pos takes) (judged 12 code) examined,
      fun code => row_of_code (if_pos takes) (judged 13 code) examined,
      fun unknown => row_of_code (exec_unknownCodeRequest h.tag takes unknown) (judgeRequest_unknown unknown) examined⟩

end

end Sys2Proof.Machine
end

section
/-! SUPPORT. The requests that touch the transmitter, the output, the settings, the Rate Finder and the trigger (R140,
R154 to R156). -/

namespace Sys2Proof.Machine

section
variable {s t : State} {n : LineNo} {l : Line} {r : Reports}

/-! ## BREAK (R154) -/

theorem orderBreak_sending {l : Line} (sending : l.tx.isSending = true ∨ l.tx.isBreak = true) (b : BreakOrder) :
    l.orderBreak b = { l with breaks := l.breaks ++ [b] } := by
  unfold Line.orderBreak
  cases tx : l.tx with
  | sending c => rfl
  | brk d k => rfl
  | idle => rw [tx] at sending; exact nomatch sending
  | gap k => rw [tx] at sending; exact nomatch sending
  | held => rw [tx] at sending; exact nomatch sending

theorem orderBreak_starts {l : Line} (silent : l.tx.isSending = false) (none : l.tx.isBreak = false) (b : BreakOrder) :
    l.orderBreak b = { l with tx := .brk b (timerStart b.length) } := by
  unfold Line.orderBreak
  cases tx : l.tx with
  | sending c => rw [tx] at silent; exact nomatch silent
  | brk d k => rw [tx] at none; exact nomatch none
  | idle => rfl
  | gap k => rfl
  | held => rfl

/-- The tests of a BREAK, in their order. -/
theorem judgeBreak_eq (s : State) (n : LineNo) (length : Word) : s.judgeBreak n length =
    if (s.line n).status ≠ .on then (s, .lineOff) else if (s.line n).owner = .script then (s, .owner)
    else if (s.line n).tx.isBreak = true ∨ (s.line n).breaks ≠ [] then (s, .busy)
    else (s.modLine n fun l => l.orderBreak ⟨max 10 (min 5000 length.toNat), false⟩, .accepted) := by
  unfold State.judgeBreak
  dsimp only
  rw [breakLength_eq]
  refine if_congr ?_ rfl (if_congr Iff.rfl rfl (if_congr ?_ rfl rfl))
  · rw [Bool.not_eq_true', State.isOn, beq_eq_false_iff_ne]
  · rw [Bool.or_eq_true, Bool.not_eq_true', List.isEmpty_eq_false_iff]

/-- Settles O44: the four tests in their order, and the order as the transmitter meets it. -/
theorem breakRequest : Obligations.BreakRequest := by
  intro n tag length s running used
  have takes := takes_of running used
  have judged := judgeBreak_eq s n length
  refine ⟨fun off => request_refused (if_pos takes) (judged.trans (if_pos off)), fun on script => ?_,
    fun on free busy => ?_, fun on free silent none => ⟨fun sending => ?_, fun quiet => ?_⟩⟩
  · rw [if_neg (not_not.2 on), if_pos script] at judged
    exact request_refused (if_pos takes) judged
  · rw [if_neg (not_not.2 on), if_neg free, if_pos busy] at judged
    exact request_refused (if_pos takes) judged
  · rw [if_neg (not_not.2 on), if_neg free, if_neg (not_or.2 ⟨Bool.eq_false_iff.1 silent, not_not.2 none⟩)] at judged
    refine request_becomes (by exact if_pos takes) judged ((becomes_modLine n s _).as_line ?_) (.inl rfl)
    rw [orderBreak_sending (.inl sending), none]
    rfl
  · rw [if_neg (not_not.2 on), if_neg free, if_neg (not_or.2 ⟨Bool.eq_false_iff.1 silent, not_not.2 none⟩)] at judged
    exact request_becomes (by exact if_pos takes) judged ((becomes_modLine n s _).as_line (orderBreak_starts quiet silent _))
      (.inl rfl)

/-! ## The output (R133 to R135, R140) -/

theorem becomes_orderPulse (s : State) (n : LineNo) (w : Nat) : LineBecomes n s (s.orderPulse n w)
    { s.line n with out := (s.line n).out.pulse s.now w } (s.mark n).reports := becomes_mark n s _

theorem becomes_orderDrive (s : State) (n : LineNo) (o : OutputState) :
    LineBecomes n s (s.orderDrive n o) ((s.line n).driven s.now o)
      (s.markIf n ((s.line n).out.state != o)).reports := becomes_markIf n s _ _

theorem markIf_cases (s : State) (n : LineNo) (b : Bool) :
    (s.markIf n b).reports = s.reports ∨ (s.markIf n b).reports = (s.mark n).reports := by
  cases b
  · exact .inl rfl
  · exact .inr rfl

theorem driven_same {l : Line} {o : OutputState} (holds : l.out.state = o) (now : Word) : l.driven now o = l := by
  rw [Line.driven, Output.drive, if_pos holds]

theorem driven_other {l : Line} {o : OutputState} (other : l.out.state ≠ o) (now : Word) : l.driven now o =
    { l with out := { l.out with
      state := o, time := now, timer := none, ended := (if l.out.state = .pulsing then .cut else l.out.ended) } } := by
  rw [Line.driven, Output.drive, if_neg other]

/-- The three tests that the output requests share, in their order. -/
theorem outputRefusal_eq (s : State) (n : LineNo) : s.outputRefusal n =
    if (s.line n).status ≠ .on then some .lineOff else if s.locked n = true then some .locked
    else if (s.line n).run.state ≠ .idle then some .scriptRunning else none := by
  unfold State.outputRefusal
  refine if_congr ?_ rfl rfl
  rw [Bool.not_eq_true', State.isOn, beq_eq_false_iff_ne]

theorem judgePulse_refused {why : ReqResult} (refused : s.outputRefusal n = some why) (width : Word) :
    s.judgePulse n width = (s, why) := by
  rw [State.judgePulse, refused]

theorem judgeDrive_refused {why : ReqResult} (refused : s.outputRefusal n = some why) (o : OutputState) :
    s.judgeDrive n o = (s, why) := by
  rw [State.judgeDrive, refused]

/-- A refusal meets each of the three output requests alike. -/
theorem output_refused {cmd : Instr} {tag width : Word} {why : ReqResult} (takes : s.takes n = true)
    (cmd_is : cmd = .pulseRequest n tag width ∨ cmd = .driveActiveRequest n tag ∨ cmd = .driveRestRequest n tag)
    (refused : s.outputRefusal n = some why) : ∃ u : State, exec cmd s = .next u.settlePort ∧
      LineBecomes n s u { s.line n with takenTag := some tag, result := why } (s.raise n .requestTaken).reports := by
  rcases cmd_is with rfl | rfl | rfl
  · exact request_refused (if_pos takes) (judgePulse_refused refused width)
  · exact request_refused (if_pos takes) (judgeDrive_refused refused .active)
  · exact request_refused (if_pos takes) (judgeDrive_refused refused .rest)

/-- A drive accepted gives its order in the same event. -/
theorem drive_accepted {cmd : Instr} {tag : Word} {o : OutputState}
    (row : exec cmd s = .next (State.recordResult n tag (s.judgeDrive n o)).settlePort)
    (passes : s.outputRefusal n = none) : ∃ u : State, exec cmd s = .next u.settlePort ∧
      LineBecomes n s u { (s.line n).driven s.now o with takenTag := some tag, result := .accepted }
        (s.raise n .requestTaken).reports :=
  request_becomes row (q := (s.orderDrive n o, .accepted)) (by rw [State.judgeDrive, passes])
    (becomes_orderDrive s n o) (markIf_cases ..)

/-- Settles O45: the shared tests, and each order as an event of the line. -/
theorem outputRequests : Obligations.OutputRequests := by
  refine ⟨fun n tag width s running used => ?_, fun n w s => ⟨becomes_orderPulse s n w, fun o other =>
    ⟨fun holds => ?holds, fun changes => ?changes⟩⟩⟩
  case holds =>
    refine (becomes_orderDrive s n o).as (driven_same holds _) ?_
    rw [holds, bne_self_eq_false]
    rfl
  case changes =>
    refine (becomes_orderDrive s n o).as (driven_other changes _) ?_
    rw [bne_iff_ne.2 changes]
    rfl
  have takes := takes_of running used
  have tests := outputRefusal_eq s n
  refine ⟨fun cmd is => ⟨fun off => ?_, fun on locked => ?_, fun on free busy => ?_⟩, fun on free idle => ?_⟩
  · exact output_refused takes is (tests.trans (if_pos off))
  · rw [if_neg (not_not.2 on), if_pos locked] at tests
    exact output_refused takes is tests
  · rw [if_neg (not_not.2 on), if_neg (Bool.eq_false_iff.1 free), if_pos busy] at tests
    exact output_refused takes is tests
  · rw [if_neg (not_not.2 on), if_neg (Bool.eq_false_iff.1 free), if_neg (not_not.2 idle)] at tests
    refine ⟨?_, drive_accepted (if_pos takes) tests, drive_accepted (if_pos takes) tests⟩
    exact request_becomes (q := (s.orderPulse n _, .accepted)) (if_pos takes)
      (by rw [State.judgePulse, tests, pulseWidth_eq]) (becomes_orderPulse s n _) (.inr rfl)

/-! ## The trigger (R77, R156) -/

theorem becomes_triggerOff (s : State) (n : LineNo) :
    LineBecomes n s (s.triggerOff n) (s.line n).disarmed (s.mark n).reports := becomes_mark n s _

theorem triggerOff_eq (c : Capture) (mode : CaptureMode) : c.triggerOff mode = { c with
    trigger := .off, pattern := none, lead := 0, remaining := 0
    tail := (if mode = .hold then c.taken else c.tail) } := by
  cases mode <;> rfl

theorem disarmed_eq (l : Line) : l.disarmed = { l with cap := { l.cap with
    trigger := .off, pattern := none, lead := 0, remaining := 0
    tail := (if l.settings.captureMode = .hold then l.cap.taken else l.cap.tail) } } := by
  rw [Line.disarmed, triggerOff_eq]

theorem becomes_armTrigger (s : State) (n : LineNo) (p : Pattern) (post : Nat) : LineBecomes n s (s.armTrigger n p post)
    { s.line n with
      trigFresh := 0
      cap := { (s.line n).cap with trigger := .armed, pattern := some p, post := post, lead := 0, remaining := 0 } }
    (s.mark n).reports := becomes_mark n s _

theorem ofRecord_eq (p : PatternRecord) : Pattern.ofRecord p =
    ⟨max 1 (min 24 p.length.toNat), p.chars, p.wildcards, p.foldCase != 0, p.lineStart != 0⟩ := by
  rw [← clamp_eq (by decide)]
  rfl

theorem judgeDisarm_idle (idle : (s.line n).cap.trigger = .off ∨ (s.line n).cap.trigger = .frozen) :
    s.judgeDisarm n = (s, .accepted) := by
  unfold State.judgeDisarm
  rcases idle with is | is <;> rw [is]

theorem judgeDisarm_armed (armed : (s.line n).cap.trigger = .armed ∨ (s.line n).cap.trigger = .counting) :
    s.judgeDisarm n = (s.triggerOff n, .accepted) := by
  unfold State.judgeDisarm
  rcases armed with is | is <;> rw [is]

/-- Settles O47: ARM_TRIGGER by its tests, DISARM by the trigger's state, THAW as it is. -/
theorem triggerRequests : Obligations.TriggerRequests := by
  intro n tag post p s running used
  have takes := takes_of running used
  have off := (becomes_triggerOff s n).as_line (disarmed_eq _)
  refine ⟨fun notOn => request_refused (if_pos takes) (unlessOn_off notOn _ _), fun on frozen => ?_, fun on thawed => ?_,
    fun idle => request_refused (if_pos takes) (judgeDisarm_idle idle),
    fun armed => request_becomes (by exact if_pos takes) (judgeDisarm_armed armed) off (.inr rfl),
    request_becomes (if_pos takes) (q := (s.triggerOff n, .accepted)) rfl off (.inr rfl)⟩
  · exact request_refused (if_pos takes) ((unlessOn_on on _ _).trans (if_pos frozen))
  · have judged : s.judgeArm n post p = (s.armTrigger n (Pattern.ofRecord p) (postCount post.toNat), .accepted) :=
      (unlessOn_on on _ _).trans (if_neg thawed)
    refine request_becomes (by exact if_pos takes) judged ((becomes_armTrigger s n _ _).as_line ?_) (.inr rfl)
    rw [ofRecord_eq, postCount_eq]

/-! ## APPLY and DETECT (R8, R26, R155) -/

theorem settings_apply_eq (st : Settings) (h : LineHost) (f : Format) : st.apply h f = { st with
    dataBits := f.dataBits, parity := f.parity, stopBits := f.stopBits, rateMode := f.rateMode
    bitPeriod := max 16 (min 131071 h.bitPeriod.toNat), fallback := max 16 (min 131071 h.fallback.toNat)
    tolerance := max 5 (min 100 h.tolerance.toNat), rawAllowed := h.rawAllowed != 0
    detectLimit := max 1000 (min 120000 h.detectLimit.toNat), flow := f.flow
    holdLimit := min 60000 h.holdLimit.toNat, charGap := min 255 h.charGap.toNat
    lineGap := min 2000 h.lineGap.toNat, absentTime := max 100 (min 10000 h.absentTime.toNat) } := by
  unfold Settings.apply
  rw [clamp_zero, clamp_zero, clamp_zero, clamp_eq (by decide), clamp_eq (by decide), clamp_eq (by decide),
    clamp_eq (by decide), clamp_eq (by decide)]
  rfl

/-- What an accepted APPLY makes of the transmitter, its hold and P. -/
theorem applySettings_eq (l : Line) (h : LineHost) (f : Format) : l.applySettings h f = { l with
    settings := l.settings.apply h f
    clamped := anyClamped h
    flowHeld := (if l.flowHeld = true ∧ f.flow = .none then false else l.flowHeld)
    holdTimer := (if l.flowHeld = true ∧ f.flow = .none then none else l.holdTimer)
    tx := (if (l.flowHeld = true ∧ f.flow = .none) ∧ l.tx = .held then .idle else l.tx)
    period := (if f.rateMode = .fixed then (l.settings.apply h f).bitPeriod else l.period) } := by
  have period : ∀ p : Nat, (match f.rateMode with | .fixed => p | .detectOnEnable => l.period) =
      if f.rateMode = .fixed then p else l.period := fun p => by
    cases f.rateMode <;> rfl
  unfold Line.applySettings
  dsimp only
  by_cases cleared : l.flowHeld = true ∧ f.flow = .none
  · rw [if_pos cleared, if_pos cleared, if_pos cleared.symm, clearHold_held cleared.1]
    dsimp only
    have tx : (match l.tx with | .held => Tx.idle | x => x) = if (l.flowHeld = true ∧ f.flow = .none) ∧ l.tx = .held
        then .idle else l.tx := by
      cases is : l.tx with
      | held => exact (if_pos ⟨cleared, rfl⟩).symm
      | idle => exact (if_neg fun h => nomatch h.2).symm
      | gap k => exact (if_neg fun h => nomatch h.2).symm
      | sending c => exact (if_neg fun h => nomatch h.2).symm
      | brk d k => exact (if_neg fun h => nomatch h.2).symm
    rw [← tx, ← period] <;> rfl
  · have kept : ¬(f.flow = .none ∧ l.flowHeld = true) := fun h => cleared h.symm
    have held : ¬((l.flowHeld = true ∧ f.flow = .none) ∧ l.tx = .held) := fun h => cleared h.1
    rw [if_neg kept, if_neg cleared, if_neg cleared, if_neg held, ← period] <;> rfl

theorem becomes_applySettings (s : State) (n : LineNo) (h : LineHost) (f : Format) :
    LineBecomes n s ((s.modLine n fun l => l.applySettings h f).mark n) ((s.line n).applySettings h f) (s.mark n).reports :=
  becomes_mark n s _

theorem busy_iff (l : Line) : (l.run.state ≠ .idle ∨ l.det.inProgress = true) ↔
    (l.run.state ≠ .idle ∨ l.det.state ≠ .none) := or_congr Iff.rfl (inProgress_iff _)

/-- The record of a detection that starts: QUEUED, or MEASURING if a slot is granted at once. -/
theorem line_startDetection_state (s : State) (n : LineNo) (b : Bool) :
    (s.startDetection n b).line n = { s.line n with det :=
      { (s.line n).det.started b (s.line n).settings.detectLimit with
        state := if n ∈ (s.detecting n b).granted then .measuring else .queued } } := by
  have granted := line_grantSlots_det (s.detecting n b) n
  rw [line_detecting] at granted
  refine granted.trans ?_
  split <;> rfl

theorem detecting_finder (s : State) (n : LineNo) (b : Bool) :
    (s.detecting n b).queue = s.queue ++ [n] ∧ (s.detecting n b).slots = s.slots := ⟨rfl, rfl⟩

/-- Where a detection that starts stands (R28, R29). -/
theorem startDetection_finder (s : State) (n : LineNo) (b : Bool) :
    (s.slots.length < 4 → s.queue = [] → (s.startDetection n b).slots = s.slots ++ [n] ∧
      (s.startDetection n b).queue = [] ∧ ((s.startDetection n b).line n).det.state = .measuring) ∧
    (4 ≤ s.slots.length → (s.startDetection n b).slots = s.slots ∧ (s.startDetection n b).queue = s.queue ++ [n] ∧
      ((s.startDetection n b).line n).det.state = .queued) := by
  obtain ⟨queue, slots⟩ := detecting_finder s n b
  have granted : (s.detecting n b).granted = (s.queue ++ [n]).take (4 - s.slots.length) := by
    rw [State.granted, queue, slots]
  have eq : s.startDetection n b = (s.detecting n b).grantSlots := rfl
  rw [line_startDetection_state, eq, slots_grantSlots, queue_grantSlots, queue, slots, granted]
  refine ⟨fun free none => ?_, fun full => ?_⟩
  · have some : (s.queue ++ [n]).take (4 - s.slots.length) = [n] := by
      rw [none]
      exact List.take_of_length_le (show 1 ≤ _ by omega)
    rw [some, none, List.nil_append, List.drop_eq_nil_of_le (show 1 ≤ _ by omega), if_pos (List.mem_singleton_self n)]
    exact ⟨rfl, rfl, rfl⟩
  · rw [Nat.sub_eq_zero_of_le full, List.take_zero, List.drop_zero, if_neg List.not_mem_nil]
    exact ⟨List.append_nil _, rfl, rfl⟩

theorem line_recordResult (n : LineNo) (tag : Word) (p : State × ReqResult) : (State.recordResult n tag p).line n =
    { p.1.line n with takenTag := some tag, result := p.2 } := by
  rw [State.recordResult, line_raise, line_modLine_self]

theorem common_recordResult' (n : LineNo) (tag : Word) (p : State × ReqResult) :
    (State.recordResult n tag p).common = p.1.common := rfl

/-- Settles O46: the shared tests, and each request's effect. -/
theorem applyAndDetect : Obligations.ApplyAndDetect := by
  intro n tag h s running used l busy becomes
  have takes := takes_of running used
  have busyIs := busy_iff (s.line n)
  refine ⟨fun off => ⟨request_refused (if_pos takes) (unlessOn_off off _ _),
      request_refused (if_pos takes) (unlessOn_off off _ _)⟩,
    fun on is => ⟨request_refused (if_pos takes) ((unlessOn_on on _ _).trans (if_pos (busyIs.2 is))),
      request_refused (if_pos takes) ((unlessOn_on on _ _).trans (if_pos (busyIs.2 is)))⟩,
    fun on idle invalid => ?invalid, fun on idle f valid => ?valid, fun on idle => ?detect⟩
  case invalid =>
    refine request_refused (if_pos takes) ((unlessOn_on on _ _).trans ((if_neg fun is => idle (busyIs.1 is)).trans ?_))
    rw [invalid]
  case valid =>
    have judged : s.judgeApply n h = ((s.modLine n fun l => l.applySettings h f).mark n, .accepted) := by
      refine (unlessOn_on on _ _).trans ((if_neg fun is => idle (busyIs.1 is)).trans ?_)
      rw [valid]
    refine request_becomes (by exact if_pos takes) judged ((becomes_applySettings s n h f).as_line ?_) (.inr rfl)
    rw [applySettings_eq, settings_apply_eq]
  case detect =>
    have judged : s.judgeDetect n = (s.startDetection n false, .accepted) :=
      (unlessOn_on on _ _).trans (if_neg fun is => idle (busyIs.1 is))
    refine ⟨_, if_pos takes, ?_⟩
    rw [judged, line_recordResult, line_startDetection_state]
    refine ⟨rfl, rfl, rfl, rfl, rfl, ?_, rfl, (common_recordResult' ..).trans (common_startDetection ..)⟩
    dsimp only
    split <;> exact nofun

end

end Sys2Proof.Machine
end

section
/-! SUPPORT. How a step ends and the next one starts (R106, R121 to R124), and the cut of an action (R119). -/

namespace Sys2Proof.Machine

section
variable {s t u : State} {n : LineNo} {l k : Line} {r q : Reports}

/-! ## A step ends (R121, R123) -/

/-- The trail as the statements write it. -/
theorem pushTrail_eq (trail : List TrailEntry) (e : TrailEntry) :
    pushTrail trail e = (trail ++ [e]).drop (trail.length + 1 - 8) := by
  rw [pushTrail, List.length_append]
  rfl

theorem becomes_noteStep (s : State) (n : LineNo) (shown : TrailExit) (immediate : Bool) :
    LineBecomes n s (s.noteStep n shown immediate) ((s.line n).stepEnded immediate shown s.now) (s.mark n).reports :=
  becomes_mark n s _

theorem stepEnded_run (l : Line) (immediate : Bool) (shown : TrailExit) (now : Word) :
    (l.stepEnded immediate shown now).run = { l.run with
      stepTimer := none, waitTimer := none, immediate := l.run.countAfter immediate
      trail := (l.run.trail ++ ([⟨l.run.current, shown, now⟩] : List TrailEntry)).drop (l.run.trail.length + 1 - 8) } := by
  rw [← pushTrail_eq]
  rfl

theorem stepEnded_eq (l : Line) (immediate : Bool) (shown : TrailExit) (now : Word) :
    l.stepEnded immediate shown now = { l with
      tx := l.tx.dropScript
      run := { l.run with
        stepTimer := none, waitTimer := none, immediate := l.run.countAfter immediate
        trail := (l.run.trail ++ ([⟨l.run.current, shown, now⟩] : List TrailEntry)).drop (l.run.trail.length + 1 - 8) } } := by
  rw [← stepEnded_run]
  rfl

/-! ## A run ends (R124, R145) -/

theorem ownerAfterRun_eq (l : Line) : l.ownerAfterRun =
    if l.owner = .script ∨ l.owner = .lent then (if l.claim then .operator else .free) else l.owner := by
  unfold Line.ownerAfterRun
  cases l.owner <;> rfl

theorem setOwner_owner (l : Line) (o : Owner) : (l.setOwner o).owner = o := by
  cases sending : l.tx.isSending
  · rw [setOwner_quiet sending]
  · rw [setOwner_sending sending]

theorem runEnded_owner (l : Line) (kind : OutcomeKind) (code : Byte) (exit : TrailExit) (now : Word) :
    (l.runEnded kind code exit now).owner =
      if l.owner = .script ∨ l.owner = .lent then (if l.claim then .operator else .free) else l.owner :=
  (setOwner_owner _ _).trans (ownerAfterRun_eq l)

theorem reports_endRun (s : State) (n : LineNo) (kind : OutcomeKind) (code : Byte) (exit : TrailExit) :
    (s.endRun n kind code exit).reports = (s.markHeader.raise n .scriptEnded).reports := rfl

theorem endRun_only (s : State) (n : LineNo) (kind : OutcomeKind) (code : Byte) (exit : TrailExit) :
    OnlyLine n s (s.endRun n kind code exit) := fun m apart => by
  simp only [State.endRun, line_raise, line_markHeader, line_modBlock]
  exact line_modLine_ne s _ apart

/-- The block of an ended run, one use fewer. -/
def Block.released (k : Block) : Block := { k with useCount := k.useCount - 1 }

/-- What the end of a run changes beside its line: the use of its block, the header's mark, the cause. -/
theorem endRun_beside (s : State) (n : LineNo) (kind : OutcomeKind) (code : Byte) (exit : TrailExit) :
    (s.endRun n kind code exit).block (s.line n).run.block = (s.block (s.line n).run.block).released ∧
    (∀ b, b ≠ (s.line n).run.block → (s.endRun n kind code exit).block b = s.block b) ∧
    (s.endRun n kind code exit).queue = s.queue ∧ (s.endRun n kind code exit).slots = s.slots :=
  ⟨block_modBlock_self _ _ Block.released, fun _ apart => block_modBlock_ne _ Block.released apart, rfl, rfl⟩

theorem held_mark (s : State) (n : LineNo) : (s.mark n).reports.held = s.reports.held := rfl

/-- What a step's end leaves where it ends the run, whatever the outcome. -/
theorem stepEnd_runEnd (s : State) (n : LineNo) (shown : TrailExit) (immediate : Bool) (kind : OutcomeKind) (code : Byte)
    (exit : TrailExit) :
    let u := (s.noteStep n shown immediate).endRun n kind code exit
    OnlyLine n s u ∧ u.common = s.common ∧ u.port = s.port ∧
    (u.line n).run = (((s.line n).stepEnded immediate shown s.now).run).finish kind code exit s.now ∧
    (u.block (s.line n).run.block).useCount = (s.block (s.line n).run.block).useCount - 1 ∧
    u.reports.headerDirty = true ∧ u.reports.dirty.get n = true ∧
    u.reports.held.get n = s.reports.held.get n ||| 0x001 := by
  have noted := becomes_noteStep s n shown immediate
  have line := line_endRun (s.noteStep n shown immediate) n kind code exit
  obtain ⟨block, -⟩ := endRun_beside (s.noteStep n shown immediate) n kind code exit
  have blockIs : ((s.noteStep n shown immediate).line n).run.block = (s.line n).run.block := by
    rw [noted.line]
    rfl
  rw [noted.line, noted.now] at line
  rw [blockIs, block_congr noted.store] at block
  refine ⟨fun m apart => (endRun_only _ _ _ _ _ m apart).trans (noted.others m apart),
    (common_endRun ..).trans noted.common, (port_endRun ..).trans noted.port, ?_, congrArg Block.useCount block, rfl, ?_, ?_⟩
  · rw [line]
    exact (runEnded_fields ..).2.2.1
  · rw [reports_endRun]
    exact dirty_raise_self ..
  · rw [reports_endRun]
    exact (held_raise_self ..).trans (by rw [← held_mark s n]; rfl)

/-- The rest of the line, where a step's end ends the run. -/
theorem stepEnd_line (s : State) (n : LineNo) (shown : TrailExit) (immediate : Bool) (kind : OutcomeKind) (code : Byte)
    (exit : TrailExit) :
    let u := (s.noteStep n shown immediate).endRun n kind code exit
    (u.line n).owner = (if (s.line n).owner = .script ∨ (s.line n).owner = .lent then
      (if (s.line n).claim then .operator else .free) else (s.line n).owner) ∧
    (u.line n).out = (s.line n).out ∧ (u.line n).cap = (s.line n).cap ∧ (u.line n).det = (s.line n).det ∧
    (u.line n).tx = (s.line n).tx.dropScript.dropScript := by
  have noted := becomes_noteStep s n shown immediate
  have line := line_endRun (s.noteStep n shown immediate) n kind code exit
  rw [noted.line] at line
  obtain ⟨-, cap, -, det, out, tx, -⟩ := runEnded_fields ((s.line n).stepEnded immediate shown s.now) kind code exit
    (s.noteStep n shown immediate).now
  have owner := runEnded_owner ((s.line n).stepEnded immediate shown s.now) kind code exit (s.noteStep n shown immediate).now
  rw [← line] at cap det out tx owner
  exact ⟨owner, out, cap, det, tx⟩

theorem dropScript_quiet {x : Tx} (quiet : x.isSending = false) : x.dropScript = x := by
  cases x with
  | sending c => exact nomatch quiet
  | idle => rfl
  | gap k => rfl
  | held => rfl
  | brk b k => rfl

/-- The runner where a step that had started ends its run. -/
theorem finish_stepEnded {l : Line} (started : l.run.state ≠ .queued) (immediate : Bool) (shown : TrailExit)
    (kind : OutcomeKind) (code : Byte) (exit : TrailExit) (now : Word) :
    ((l.stepEnded immediate shown now).run).finish kind code exit now = { l.run with
      state := .idle, stepTimer := none, waitTimer := none, actionResult := none
      immediate := l.run.countAfter immediate, phase := .a, begun := true
      trail := (l.run.trail ++ ([⟨l.run.current, shown, now⟩] : List TrailEntry)).drop (l.run.trail.length + 1 - 8)
      last := some ⟨kind, code, l.run.current, exit, now⟩ } := by
  rw [stepEnded_run, Runner.finish]
  dsimp only
  rw [if_neg started]

/-! ## Steps start and follow one another (R106, R122) -/

theorem stepTimerOf_eq (v : Nat) : stepTimerOf v = if v = 0 then none else some (min 600000 v + 1) := by
  unfold stepTimerOf
  split
  · rfl
  · rw [clamp_eq (by decide), timerStart]
    congr 2
    omega

/-- The line as step k starts. -/
def Line.stepStarted (l : Line) (k : Nat) (timeout : Nat) : Line := { l with run := { l.run with
  state := .acting, current := k, textOffset := 0, actionResult := none, phase := .a, begun := false
  stepTimer := stepTimerOf timeout } }

/-- Step k of the block that the runner is in. -/
def State.stepAt (s : State) (n : LineNo) (k : Nat) : StepRecord :=
  (s.block (s.line n).run.block).steps.getD k .absent

theorem becomes_startStep (s : State) (n : LineNo) (k : Nat) : LineBecomes n s (s.startStep n k)
    ((s.line n).stepStarted k (s.stepAt n k).timeout.toNat) (s.mark n).reports := by
  have entered := becomes_modLine n s fun l => { l with run := { l.run with
    state := .acting, current := k, textOffset := 0, actionResult := none, phase := .a, begun := false } }
  have step : (s.modLine n fun l => { l with run := { l.run with
      state := .acting, current := k, textOffset := 0, actionResult := none, phase := .a, begun := false } }).step n =
      s.stepAt n k := by
    unfold State.step State.stepAt
    dsimp only
    rw [entered.line, block_congr entered.store]
  have timed := (entered.modLine fun l => { l with run := { l.run with
    stepTimer := stepTimerOf (s.stepAt n k).timeout.toNat } }).mark
  rw [← step] at timed
  rw [← step]
  exact timed

theorem step_startStep (s : State) (n : LineNo) (k : Nat) : (s.startStep n k).step n = s.stepAt n k := by
  have started := becomes_startStep s n k
  unfold State.step State.stepAt
  dsimp only
  rw [started.line, block_congr started.store]
  rfl

theorem follow_none (n : LineNo) (s : State) : follow n (s, none) = s := rfl

/-! The Immediate Count through a step's beginning: an action leaves it, an immediate exit counts. -/

theorem becomes_setBegun (s : State) (n : LineNo) : LineBecomes n s (s.setBegun n)
    { s.line n with run := { (s.line n).run with begun := true } } s.reports := becomes_modLine n s _

theorem immediate_markIf (s : State) (n m : LineNo) (b : Bool) :
    ((s.markIf m b).line n).run.immediate = (s.line n).run.immediate := by rw [line_markIf]

theorem immediate_modLine {f : Line → Line} (s : State) (n : LineNo) (same : ∀ l, (f l).run.immediate = l.run.immediate) :
    ((s.modLine n f).line n).run.immediate = (s.line n).run.immediate := by rw [line_modLine_self, same]

theorem orderBreak_run (l : Line) (b : BreakOrder) : (l.orderBreak b).run = l.run := by
  unfold Line.orderBreak
  split <;> rfl

theorem immediate_actDetect (s : State) (n : LineNo) :
    ((s.actDetect n).1.line n).run.immediate = (s.line n).run.immediate := by
  unfold State.actDetect
  dsimp only
  split
  · exact immediate_modLine s n fun _ => rfl
  · rw [line_startDetection_state]

theorem immediate_act (s : State) (n : LineNo) : ((s.act n).1.line n).run.immediate = (s.line n).run.immediate := by
  unfold State.act
  split
  · rfl
  · rfl
  · rfl
  · exact immediate_modLine s n fun l => by rw [orderBreak_run]
  · unfold State.actPulse
    split
    · rfl
    · rw [line_orderPulse]
  · unfold State.actDrive
    split
    · rfl
    · rw [line_orderDrive, driven_run]
  · unfold State.actDrive
    split
    · rfl
    · rw [line_orderDrive, driven_run]
  · exact (immediate_markIf ..).trans (immediate_modLine s n fun _ => rfl)
  · exact immediate_actDetect s n
  · unfold State.actArm
    split
    · rfl
    · rw [(becomes_armTrigger ..).line]
  · rw [State.actSignal, line_raise, line_modRun_self]
  · rw [State.actLoadCounter, line_mark, line_modRun_self]
  · unfold State.actCountDown
    split
    · rfl
    · rw [line_mark, line_modRun_self]

/-- A step that ends by a STEP exit to a next step has counted, and the count is below the guard. -/
theorem endStep_counts {exit : TrailExit} {immediate : Bool} {next : Nat}
    (goes : (s.endStep n exit immediate).2 = some next) :
    ((s.endStep n exit immediate).1.line n).run.immediate = (s.line n).run.countAfter immediate ∧
    (s.line n).run.countAfter immediate < 64 := by
  by_cases step : ((s.step n).exit exit).kind = 0
  · by_cases below : (s.line n).run.countAfter immediate < 64
    · rw [endStep_step step below, line_noteStep]
      exact ⟨rfl, below⟩
    · rw [endStep_runaway step (Nat.not_lt.1 below)] at goes
      exact nomatch goes
  · rw [endStep_end step] at goes
    exact nomatch goes

theorem afterAct_counts {b : Begun} {next : Nat} (goes : (s.afterAct n b true).2 = some next) :
    ((s.afterAct n b true).1.line n).run.immediate = (s.line n).run.immediate + 1 ∧ (s.line n).run.immediate + 1 < 64 := by
  cases b with
  | inProgress => exact nomatch goes
  | failed why =>
    have counted := endStep_counts (s := s.modRun n fun r => { r with failure := why }) goes
    rw [line_modRun_self] at counted
    exact counted
  | completed =>
    have armed : ((s.armWait n).line n).run.immediate = (s.line n).run.immediate := by
      rw [State.armWait, line_mark, line_modLine_self]
    change (if (s.armWait n).waitHolds n then (s.armWait n).endStep n .success true
      else ((s.armWait n), none)).2 = some next at goes
    change ((if (s.armWait n).waitHolds n then (s.armWait n).endStep n .success true
      else ((s.armWait n), none)).1.line n).run.immediate = _ ∧ _
    split at goes
    next holds =>
      rw [if_pos holds]
      have counted := endStep_counts goes
      rw [Runner.countAfter, armed] at counted
      exact counted
    next => exact nomatch goes

theorem beginAct_eq (s : State) (n : LineNo) :
    s.beginAct n = ((s.setBegun n).act n).1.afterAct n ((s.setBegun n).act n).2 true := rfl

theorem beginAct_counts {next : Nat} (goes : (s.beginAct n).2 = some next) :
    ((s.beginAct n).1.line n).run.immediate = (s.line n).run.immediate + 1 ∧ (s.line n).run.immediate + 1 < 64 := by
  have counted := afterAct_counts (s := ((s.setBegun n).act n).1) goes
  rw [immediate_act, (becomes_setBegun s n).line] at counted
  exact counted

/-- The runaway guard ends a chain before the fuel does (R122). -/
theorem runSteps_fuel (fuel : Nat) (p : State × Option Nat) (enough : 64 ≤ (p.1.line n).run.immediate + fuel) :
    State.runSteps (fuel + 1) n p = State.runSteps (fuel + 2) n p := by
  induction fuel generalizing p with
  | zero =>
    obtain ⟨t, next⟩ := p
    cases next with
    | none => rfl
    | some k =>
      have count : ((t.startStep n k).line n).run.immediate = (t.line n).run.immediate := by
        rw [(becomes_startStep t n k).line]
        rfl
      cases next : ((t.startStep n k).beginAct n).2 with
      | none =>
        have begun : (t.startStep n k).beginAct n = (((t.startStep n k).beginAct n).1, none) := Prod.ext rfl next
        simp only [State.runSteps]
        rw [begun]
        rfl
      | some j =>
        obtain ⟨-, below⟩ := beginAct_counts next
        rw [count] at below
        dsimp only at enough
        omega
  | succ fuel ih =>
    obtain ⟨t, next⟩ := p
    cases next with
    | none => rfl
    | some k =>
      have count : ((t.startStep n k).line n).run.immediate = (t.line n).run.immediate := by
        rw [(becomes_startStep t n k).line]
        rfl
      change State.runSteps (fuel + 1) n ((t.startStep n k).beginAct n) =
        State.runSteps (fuel + 2) n ((t.startStep n k).beginAct n)
      cases next : ((t.startStep n k).beginAct n).2 with
      | none =>
        have begun : (t.startStep n k).beginAct n = (((t.startStep n k).beginAct n).1, none) := Prod.ext rfl next
        rw [begun]
        rfl
      | some j =>
        obtain ⟨counted, below⟩ := beginAct_counts next
        rw [count] at counted below
        refine ih _ ?_
        rw [counted]
        dsimp only at enough
        omega

theorem follow_some (n : LineNo) (s : State) (k : Nat) :
    follow n (s, some k) = follow n ((s.startStep n k).beginAct n) :=
  runSteps_fuel 65 _ (by omega)

end

end Sys2Proof.Machine
end

section
/-! SUPPORT. The wait as it is armed (R114 to R118), and an action as it begins (R106 to R113). -/

namespace Sys2Proof.Machine

section
variable {s t u : State} {n : LineNo} {l k : Line} {r q : Reports}

/-! ## The wait (R114 to R118) -/

theorem countArg_eq (v : Nat) : countArg v = min 65535 v := clamp_zero ..
theorem elapseTime_eq (v : Nat) : elapseTime v = min 600000 v := clamp_zero ..
theorem quietTime_eq (v : Nat) : quietTime v = max 1 (min 60000 v) := clamp_eq (by decide) v

theorem clampedZero_iff {hi : Nat} (positive : hi ≠ 0) (v : Word) : (min hi v.toNat == 0) = true ↔ v = 0 := by
  rw [beq_iff_eq]
  constructor
  · intro zero
    exact BitVec.eq_of_toNat_eq (show v.toNat = 0 by omega)
  · rintro rfl
    exact Nat.min_zero hi

/-- The waits that hold as they are armed. -/
theorem waitHolds_iff (s : State) (n : LineNo) : s.waitHolds n = true ↔ (s.step n).wait = 0 ∨
    ((s.step n).wait = 5 ∧ (s.step n).waitArg = 0) ∨ ((s.step n).wait = 6 ∧ (s.step n).waitArg = 0) ∨
    ((s.step n).wait = 7 ∧ (s.line n).condition = .marking) ∨
    ((s.step n).wait = 8 ∧ (s.line n).condition = .spacing) := by
  have count := clampedZero_iff (hi := 65535) (by decide) (s.step n).waitArg
  have elapse := clampedZero_iff (hi := 600000) (by decide) (s.step n).waitArg
  rw [← countArg_eq] at count
  rw [← elapseTime_eq] at elapse
  unfold State.waitHolds
  cases is : s.wait n with
  | none =>
    have unnamed : ∀ w : Wait, (s.step n).wait ≠ w.code := fun w named => nomatch is.symm.trans (wait_iff.2 named)
    refine iff_of_false nofun ?_
    rintro (code | ⟨code, _⟩ | ⟨code, _⟩ | ⟨code, _⟩ | ⟨code, _⟩)
    · exact unnamed .none code
    · exact unnamed .count code
    · exact unnamed .elapse code
    · exact unnamed .marking code
    · exact unnamed .spacing code
  | some w =>
    have code := wait_iff.1 is
    cases w <;> simp [code, Wait.code, count, elapse]

/-- The waits of a step that do not hold as they are armed, for a reader who knows the code. -/
theorem waitHolds_false (none : (s.step n).wait ≠ 0) (count : (s.step n).wait ≠ 5 ∨ (s.step n).waitArg ≠ 0)
    (elapse : (s.step n).wait ≠ 6 ∨ (s.step n).waitArg ≠ 0)
    (marking : (s.step n).wait ≠ 7 ∨ (s.line n).condition ≠ .marking)
    (spacing : (s.step n).wait ≠ 8 ∨ (s.line n).condition ≠ .spacing) : s.waitHolds n = false := by
  rw [Bool.eq_false_iff]
  intro holds
  rcases (waitHolds_iff s n).1 holds with is | ⟨is, arg⟩ | ⟨is, arg⟩ | ⟨is, now⟩ | ⟨is, now⟩
  · exact none is
  · exact count.elim (fun no => no is) fun no => no arg
  · exact elapse.elim (fun no => no is) fun no => no arg
  · exact marking.elim (fun no => no is) fun no => no now
  · exact spacing.elim (fun no => no is) fun no => no now

theorem waitHolds_congr (step : t.step n = s.step n) (condition : (t.line n).condition = (s.line n).condition) :
    t.waitHolds n = s.waitHolds n := by
  unfold State.waitHolds State.wait
  rw [step, condition]

/-- The line as the wait w of its step is armed. -/
def Line.armed (l : Line) (w : Option Wait) (arg : Nat) : Line := { l with
  scriptFresh := 0
  run := { l.run with
    state := .waiting, actionResult := none, waitTimer := waitTimerOf w arg
    countLeft := if w = some .count then min 65535 arg else l.run.countLeft } }

theorem becomes_armWait (s : State) (n : LineNo) : LineBecomes n s (s.armWait n)
    ((s.line n).armed (s.wait n) (s.step n).waitArg.toNat) (s.mark n).reports :=
  (becomes_mark n s _).as_line (by rw [countArg_eq, Line.armed])

theorem waitHolds_armWait (s : State) (n : LineNo) : (s.armWait n).waitHolds n = s.waitHolds n := by
  have armed := becomes_armWait s n
  refine waitHolds_congr (step_congr armed.store ?_ ?_) ?_ <;> rw [armed.line] <;> rfl

/-- A mark over a mark or a cause leaves the reports as they are. -/
theorem mark_after (reports : t.reports = s.reports ∨ t.reports = (s.mark n).reports) :
    (t.mark n).reports = (s.mark n).reports := by
  unfold State.mark
  dsimp only
  rcases reports with same | marked
  · rw [same]
  · rw [marked, State.mark]
    dsimp only
    rw [Vector.set_set]

theorem mark_after_raise {c : LineCause} (raised : t.reports = (s.raise n c).reports) :
    (t.mark n).reports = (s.raise n c).reports := by
  unfold State.mark
  rw [raised]
  unfold State.raise
  dsimp only
  rw [Vector.set_set]

/-! ## An action as it begins (R106) -/

theorem actionDue_of {a : Action} (acting : (s.line n).run.state = .acting) (fresh : (s.line n).run.begun = false)
    (code : (s.step n).action = a.code) : s.actionDue n a = true := by
  unfold State.actionDue
  dsimp only
  rw [acting, fresh, action_iff.2 code]
  simp

theorem step_setBegun (s : State) (n : LineNo) : (s.setBegun n).step n = s.step n := by
  have begun := becomes_setBegun s n
  refine step_congr begun.store ?_ ?_ <;> rw [begun.line]

/-- What each action does as it begins. -/
def State.actOn (s : State) (n : LineNo) : Action → State × Begun
  | .none => s.actNone n
  | .send => s.actSend n
  | .brk => s.actBreak n
  | .pulse => s.actPulse n
  | .driveActive => s.actDrive n .active
  | .driveRest => s.actDrive n .rest
  | .setRate => s.actSetRate n
  | .detectRate => s.actDetect n
  | .armTrigger => s.actArm n
  | .signal => s.actSignal n
  | .loadCounter => s.actLoadCounter n
  | .countDown => s.actCountDown n

theorem act_eq {a : Action} (action : s.action n = some a) : s.act n = s.actOn n a := by
  unfold State.act
  rw [action]
  cases a <;> rfl

/-- The row of each action. -/
def Action.row (n : LineNo) : Action → Instr
  | .none => .noneAction n
  | .send => .send n
  | .brk => .breakAction n
  | .pulse => .pulseAction n
  | .driveActive => .driveActiveAction n
  | .driveRest => .driveRestAction n
  | .setRate => .setRate n
  | .detectRate => .detectRate n
  | .armTrigger => .armTriggerAction n
  | .signal => .signal n
  | .loadCounter => .loadCounter n
  | .countDown => .countDown n

theorem exec_actionRow (a : Action) (s : State) : exec (a.row n) s =
    if s.actionDue n a then State.actionBegun n ((s.setBegun n).actOn n a) else .next s := by
  cases a <;> rfl

/-- The beginning of a due action, in its own row and in the event that starts its step. -/
theorem action_begins {a : Action} (acting : (s.line n).run.state = .acting) (fresh : (s.line n).run.begun = false)
    (code : (s.step n).action = a.code) :
    s.beginAct n = ((s.setBegun n).actOn n a).1.afterAct n ((s.setBegun n).actOn n a).2 true ∧
    exec (a.row n) s = .next (follow n (s.beginAct n)).settlePort := by
  have action : (s.setBegun n).action n = some a := action_iff.2 (by rw [step_setBegun]; exact code)
  have begins := beginAct_eq s n
  rw [act_eq action] at begins
  refine ⟨begins, ?_⟩
  rw [exec_actionRow, if_pos (actionDue_of acting fresh code), begins]
  rfl

/-- An action that takes time: nothing follows in the event. -/
theorem begins_inProgress {a : Action} (acting : (s.line n).run.state = .acting) (fresh : (s.line n).run.begun = false)
    (code : (s.step n).action = a.code) (does : (s.setBegun n).actOn n a = (t, .inProgress)) :
    exec (a.row n) s = .next t.settlePort ∧ s.beginAct n = (t, none) := by
  obtain ⟨begins, row⟩ := action_begins acting fresh code
  rw [does] at begins
  refine ⟨?_, begins⟩
  rw [row, begins]
  rfl

/-- An action that fails: the step takes its Failure exit (R121). -/
theorem begins_failed {a : Action} {why : FailureReason} (acting : (s.line n).run.state = .acting)
    (fresh : (s.line n).run.begun = false) (code : (s.step n).action = a.code)
    (does : (s.setBegun n).actOn n a = (s.setBegun n, .failed why)) : ∃ v : State,
      LineBecomes n s v { s.line n with run := { (s.line n).run with begun := true, failure := why } } s.reports ∧
      exec (a.row n) s = .next (follow n (v.endStep n .failure true)).settlePort ∧
      s.beginAct n = v.endStep n .failure true := by
  obtain ⟨begins, row⟩ := action_begins acting fresh code
  rw [does] at begins
  refine ⟨(s.setBegun n).modRun n fun r => { r with failure := why },
    (becomes_setBegun s n).modLine fun l => { l with run := { l.run with failure := why } }, ?_, begins⟩
  rw [row, begins]
  rfl

/-- The line of a completed action, its wait armed; k is the line as the action leaves it. -/
def Line.completed (k : Line) (w : Option Wait) (arg : Nat) : Line :=
  ({ k with run := { k.run with begun := true } } : Line).armed w arg

/-- An action that completes: the wait is armed, and one that holds ends the step by Success (R114). -/
theorem begins_completed {a : Action} (acting : (s.line n).run.state = .acting) (fresh : (s.line n).run.begun = false)
    (code : (s.step n).action = a.code) (does : (s.setBegun n).actOn n a = (t, .completed))
    (becomes : LineBecomes n s t l r) (block : l.run.block = (s.line n).run.block)
    (current : l.run.current = (s.line n).run.current) (condition : l.condition = (s.line n).condition)
    (reports : (t.mark n).reports = q) : ∃ u : State,
      LineBecomes n s u (l.armed (s.wait n) (s.step n).waitArg.toNat) q ∧
      (s.waitHolds n = false → exec (a.row n) s = .next u.settlePort ∧ s.beginAct n = (u, none)) ∧
      (s.waitHolds n = true → exec (a.row n) s = .next (follow n (u.endStep n .success true)).settlePort ∧
        s.beginAct n = u.endStep n .success true) := by
  obtain ⟨begins, row⟩ := action_begins acting fresh code
  rw [does] at begins
  have step : t.step n = s.step n := by
    refine step_congr becomes.store ?_ ?_ <;> rw [becomes.line]
    · exact block
    · exact current
  have wait : t.wait n = s.wait n := congrArg (fun r : StepRecord => Wait.ofCode r.wait) step
  have holds : (t.armWait n).waitHolds n = s.waitHolds n :=
    (waitHolds_armWait t n).trans (waitHolds_congr step (by rw [becomes.line]; exact condition))
  have armed := becomes.trans (becomes_armWait t n)
  rw [becomes.line, wait, step, reports] at armed
  have after : s.beginAct n = if s.waitHolds n then (t.armWait n).endStep n .success true else (t.armWait n, none) := by
    rw [begins, ← holds]
    rfl
  refine ⟨_, armed, fun no => ?_, fun yes => ?_⟩
  · rw [if_neg (Bool.eq_false_iff.1 no)] at after
    refine ⟨?_, after⟩
    rw [row, after, follow_none]
  · rw [if_pos yes] at after
    refine ⟨?_, after⟩
    rw [row, after]

/-- NONE, begun as its step starts, with a wait that does not hold at arming: the runner is WAITING and nothing more
follows. -/
theorem starts_waiting {k : Nat} {rec_ : StepRecord} (at_ : s.stepAt n k = rec_) (action : rec_.action = 0)
    (waits : (s.startStep n k).waitHolds n = false) : LineBecomes n s (follow n (s, some k))
      (({ ((s.line n).stepStarted k rec_.timeout.toNat) with run :=
          { ((s.line n).stepStarted k rec_.timeout.toNat).run with begun := true } } : Line).armed
        (Wait.ofCode rec_.wait) rec_.waitArg.toNat) (s.mark n).reports := by
  have started := becomes_startStep s n k
  have step : (s.startStep n k).step n = rec_ := (step_startStep s n k).trans at_
  have line := started.line
  rw [at_] at line
  obtain ⟨u, becomes, no, -⟩ := begins_completed (s := s.startStep n k) (n := n) (a := .none)
    (t := (s.startStep n k).setBegun n) (by rw [line]; rfl) (by rw [line]; rfl) (by rw [step, action]; rfl) rfl
    (becomes_setBegun ..) rfl rfl rfl rfl
  obtain ⟨-, begun⟩ := no waits
  rw [follow_some, begun, follow_none]
  refine (started.trans becomes).as ?_ ?_
  · rw [State.wait, step, line]
  · exact mark_after (.inr started.reports)

end

end Sys2Proof.Machine
end

section
/-! SUPPORT. Steps that end by an expiry or an exit (R115, R116, R119, R121 to R124). -/

namespace Sys2Proof.Machine

section
variable {s t u : State} {n : LineNo} {l k : Line} {r q : Reports}

/-! ## The cut of an action (R20, R119) -/

theorem afterBreak_fields (l : Line) : l.afterBreak = { l with
    breaks := l.breaks.tail
    tx := match l.breaks with
      | d :: _ => .brk d (timerStart d.length)
      | [] => if l.flowHeld then .held else if l.settings.charGap = 0 then .idle
        else .gap (timerStart l.settings.charGap) } := by
  unfold Line.afterBreak
  cases is : l.breaks with
  | nil => dsimp only; rw [List.tail_nil, ← is]; rfl
  | cons d rest => rfl

/-- The breaks that the running step did not order. -/
def Line.keptBreaks (l : Line) : List BreakOrder := l.breaks.filter fun b => !b.byStep

theorem cutStepBreaks_eq (l : Line) : l.cutStepBreaks =
    match l.tx with
    | .brk b _ => if b.byStep = true then { l with
          breaks := l.keptBreaks.tail
          tx := (match l.keptBreaks with
            | d :: _ => .brk d (timerStart d.length)
            | [] => if l.flowHeld then .held else if l.settings.charGap = 0 then .idle
              else .gap (timerStart l.settings.charGap)) }
        else { l with breaks := l.keptBreaks }
    | _ => { l with breaks := l.keptBreaks } := by
  unfold Line.cutStepBreaks
  cases is : l.tx with
  | brk b k =>
    dsimp only
    split
    · rw [afterBreak_fields] <;> rfl
    · rfl
  | idle => rfl
  | gap k => rfl
  | held => rfl
  | sending c => rfl

theorem cutAction_waiting (waiting : (s.line n).run.state = .waiting) : s.cutAction n = s :=
  if_neg (by rw [waiting]; exact nofun)

theorem cutAction_acting (acting : (s.line n).run.state = .acting) : s.cutAction n =
    match s.action n with
    | some .brk => s.modLine n Line.cutStepBreaks
    | some .detectRate => s.cancelDetection n
    | _ => s := if_pos acting

theorem cutAction_brk (acting : (s.line n).run.state = .acting) (action : (s.step n).action = 2) :
    s.cutAction n = s.modLine n Line.cutStepBreaks := by
  have is : s.action n = some .brk := action_iff.2 action
  rw [cutAction_acting acting, is]

theorem cutAction_detect (acting : (s.line n).run.state = .acting) (action : (s.step n).action = 7) :
    s.cutAction n = s.cancelDetection n := by
  have is : s.action n = some .detectRate := action_iff.2 action
  rw [cutAction_acting acting, is]

theorem cutAction_other (acting : (s.line n).run.state = .acting) (brk : (s.step n).action ≠ 2)
    (detect : (s.step n).action ≠ 7) : s.cutAction n = s := by
  rw [cutAction_acting acting]
  split
  next is => exact absurd (action_iff.1 is) brk
  next is => exact absurd (action_iff.1 is) detect
  next => rfl

/-! ## The rows -/

theorem exec_stepTimerExpiry (runs : (s.line n).run.state = .acting ∨ (s.line n).run.state = .waiting)
    (due : timerDue (s.line n).run.stepTimer = true) :
    exec (.stepTimerExpiry n) s = .next ((s.cutAction n).exitStep n .timeout).settlePort := if_pos ⟨runs, due⟩

theorem waitExpired_of {w : Wait} (waiting : (s.line n).run.state = .waiting) (wait : (s.step n).wait = w.code)
    (due : timerDue (s.line n).run.waitTimer = true) : s.waitExpired n w = true := by
  unfold State.waitExpired
  dsimp only
  rw [waiting, wait_iff.2 wait, due]
  simp

theorem exec_quietExpiry (waiting : (s.line n).run.state = .waiting) (due : timerDue (s.line n).run.waitTimer = true)
    (wait : (s.step n).wait = 4) :
    exec (.quietExpiry n) s = .next (s.exitStep n .success).settlePort :=
  if_pos (waitExpired_of (w := .quiet) waiting wait due)

theorem exec_elapseExpiry (waiting : (s.line n).run.state = .waiting) (due : timerDue (s.line n).run.waitTimer = true)
    (wait : (s.step n).wait = 6) :
    exec (.elapseExpiry n) s = .next (s.exitStep n .success).settlePort :=
  if_pos (waitExpired_of (w := .elapse) waiting wait due)

theorem exitStep_end {exit : TrailExit} (ends : ((s.step n).exit exit).kind ≠ 0) : s.exitStep n exit =
    (s.noteStep n exit false).endRun n .completed ((s.step n).exit exit).value exit := by
  rw [State.exitStep, endStep_end ends]
  rfl

theorem cancelDetection_reports (running : (s.line n).det.state ≠ .none) :
    (s.cancelDetection n).reports.dirty.get n = true ∧ (s.cancelDetection n).reports.held = s.reports.held := by
  rw [cancelDetection_eq ((inProgress_iff _).2 running)]
  exact ⟨dirty_grantSlots_of_dirty (dirty_mark_self _ n), held_grantSlots _⟩

theorem cancelDetection_gone (running : (s.line n).det.state ≠ .none) :
    n ∉ (s.cancelDetection n).queue ∧ n ∉ (s.cancelDetection n).slots := by
  rw [cancelDetection_eq ((inProgress_iff _).2 running), queue_grantSlots, slots_grantSlots]
  refine ⟨fun member => ?_, fun member => ?_⟩
  · have kept := List.mem_of_mem_drop member
    simp [State.leaveFinder] at kept
  · rcases List.mem_append.1 member with kept | granted
    · simp [State.leaveFinder] at kept
    · exact not_mem_granted_leave _ n granted

/-- An expiry whose exit is END ends the run COMPLETED. -/
theorem expiry_ends {cmd : Instr} {exit : TrailExit} (quiet : (s.line n).tx.isSending = false)
    (waiting : (s.line n).run.state = .waiting) (ends : ((s.step n).exit exit).kind = 1)
    (row : exec cmd s = .next (s.exitStep n exit).settlePort) :
    let l := s.line n
    let r := l.run
    let e := (s.step n).exit exit
    ∃ u : State, exec cmd s = .next u.settlePort ∧ OnlyLine n s u ∧ u.common = s.common ∧ u.port = s.port ∧
      (u.line n).run = { r with
        state := .idle, stepTimer := none, waitTimer := none, actionResult := none, immediate := 0, phase := .a
        begun := true
        trail := (r.trail ++ ([⟨r.current, exit, s.clock.ms⟩] : List TrailEntry)).drop (r.trail.length + 1 - 8)
        last := some ⟨.completed, e.value, r.current, exit, s.clock.ms⟩ } ∧
      (u.line n).owner = (if l.owner = .script ∨ l.owner = .lent then (if l.claim then .operator else .free)
        else l.owner) ∧
      (u.line n).out = l.out ∧ (u.line n).cap = l.cap ∧ (u.line n).det = l.det ∧ (u.line n).tx = l.tx ∧
      (u.block r.block).useCount = (s.block r.block).useCount - 1 ∧
      u.reports.headerDirty = true ∧ u.reports.dirty.get n = true ∧
      u.reports.held.get n = s.reports.held.get n ||| 0x001 := by
  intro l r e
  have kind : ((s.step n).exit exit).kind ≠ 0 := by
    rw [ends]
    exact nofun
  have started : (s.line n).run.state ≠ .queued := by
    rw [waiting]
    exact nofun
  rw [exitStep_end kind] at row
  obtain ⟨only, common, port, run, use, header, dirty, held⟩ := stepEnd_runEnd s n exit false .completed
    ((s.step n).exit exit).value exit
  obtain ⟨owner, out, cap, det, tx⟩ := stepEnd_line s n exit false .completed ((s.step n).exit exit).value exit
  rw [finish_stepEnded started] at run
  rw [dropScript_quiet quiet, dropScript_quiet quiet] at tx
  exact ⟨_, row, only, common, port, run, owner, out, cap, det, tx, use, header, dirty, held⟩

/-- Settles O30: each expiry is the row's exit, the cut action comes first, and a cancelled detection leaves. -/
theorem expiriesEndTheStep : Obligations.ExpiriesEndTheStep := by
  refine ⟨fun n cmd exit e s => ?ends, fun n s => ?rows⟩
  case ends =>
    rintro l r st quiet waiting kind (⟨rfl, rfl, rfl, due⟩ | ⟨rfl, rfl, rfl, wait, due⟩ | ⟨rfl, rfl, rfl, wait, due⟩)
    · have row := exec_stepTimerExpiry (.inr waiting) due
      rw [cutAction_waiting waiting] at row
      exact expiry_ends quiet waiting kind row
    · exact expiry_ends quiet waiting kind (exec_quietExpiry waiting due wait)
    · exact expiry_ends quiet waiting kind (exec_elapseExpiry waiting due wait)
  case rows =>
    intro l r st kept cutBreaks
    refine ⟨fun waiting due => ?_, fun acting due brk => ⟨s.modLine n Line.cutStepBreaks,
        (becomes_modLine n s _).as_line (cutStepBreaks_eq _), ?_⟩, fun acting due detect => ?_,
      fun acting due brk detect => ?_, exec_quietExpiry, exec_elapseExpiry, fun exit => rfl, cancelDetection_none,
      fun running => ?_⟩
    · rw [exec_stepTimerExpiry (.inr waiting) due, cutAction_waiting waiting]
    · rw [exec_stepTimerExpiry (.inl acting) due, cutAction_brk acting brk]
    · rw [exec_stepTimerExpiry (.inl acting) due, cutAction_detect acting detect]
    · rw [exec_stepTimerExpiry (.inl acting) due, cutAction_other acting brk detect]
    · obtain ⟨dirty, held⟩ := cancelDetection_reports running
      obtain ⟨queue, slots⟩ := cancelDetection_gone running
      exact ⟨line_cancelDetection running, queue, slots, dirty, held, common_cancelDetection .., store_cancelDetection ..,
        port_cancelDetection ..⟩

/-! ## Exits (R121 to R123) -/

/-- A QUIET wait whose Success exit is a STEP to a NONE step with a MATCH wait. -/
theorem quiet_to_match {rec_ : StepRecord} (waiting : (s.line n).run.state = .waiting)
    (due : timerDue (s.line n).run.waitTimer = true) (wait : (s.step n).wait = 4)
    (kind : (s.step n).success.kind = 0)
    (next : (s.block (s.line n).run.block).steps[(s.step n).success.value.toNat]? = some rec_) (action : rec_.action = 0)
    (match_ : rec_.wait = 1) : ∃ u : State, exec (.quietExpiry n) s = .next u.settlePort ∧
      LineBecomes n s u { s.line n with
        tx := (s.line n).tx.dropScript, scriptFresh := 0
        run := { (s.line n).run with
          state := .waiting, current := (s.step n).success.value.toNat, immediate := 0, textOffset := 0
          actionResult := none, waitTimer := none, phase := .a, begun := true
          stepTimer := (if rec_.timeout.toNat = 0 then none else some (min 600000 rec_.timeout.toNat + 1))
          trail := ((s.line n).run.trail ++ ([⟨(s.line n).run.current, .success, s.clock.ms⟩] : List TrailEntry)).drop
            ((s.line n).run.trail.length + 1 - 8) } } (s.mark n).reports := by
  have noted := becomes_noteStep s n .success false
  have exits : s.exitStep n .success = follow n (s.noteStep n .success false, some (s.step n).success.value.toNat) := by
    rw [State.exitStep, endStep_step (exit := .success) kind (by exact Nat.zero_lt_succ 63)]
    rfl
  have at_ : (s.noteStep n .success false).stepAt n (s.step n).success.value.toNat = rec_ := by
    unfold State.stepAt
    rw [noted.line, block_congr noted.store, List.getD_eq_getElem?_getD]
    exact congrArg (fun o => o.getD StepRecord.absent) next
  have started := becomes_startStep (s.noteStep n .success false) n (s.step n).success.value.toNat
  have step := (step_startStep (s.noteStep n .success false) n (s.step n).success.value.toNat).trans at_
  have begins := starts_waiting at_ action (waitHolds_false (by rw [step, match_]; decide) (.inl (by rw [step, match_]; decide))
    (.inl (by rw [step, match_]; decide)) (.inl (by rw [step, match_]; decide)) (.inl (by rw [step, match_]; decide)))
  have row := exec_quietExpiry waiting due wait
  rw [exits] at row
  refine ⟨_, row, (noted.trans begins).as ?_ (mark_after (.inr noted.reports))⟩
  rw [noted.line, stepEnded_eq, Line.stepStarted, stepTimerOf_eq, match_]
  rfl

/-- Settles O31: a step's end by its three outcomes, a step's start, and the chain that the guard ends. -/
theorem stepExits : Obligations.StepExits := by
  refine ⟨fun n exit imm s => ?exits, fun n k s => ?starts, fun n k s => ⟨rfl, follow_some n s k⟩,
    fun n k s waiting due wait kind next action match_ => quiet_to_match waiting due wait kind next action match_⟩
  case starts => exact (becomes_startStep s n k).as_line (by rw [Line.stepStarted, stepTimerOf_eq]; rfl)
  case exits =>
    intro l r e count p trail started
    refine ⟨fun step below => ?_, fun step full => ?_, fun ends => ?_⟩
    · have is : p = _ := endStep_step step below
      rw [is]
      exact ⟨rfl, (becomes_noteStep s n exit imm).as_line (stepEnded_eq ..)⟩
    · have is : p = _ := endStep_runaway step full
      obtain ⟨-, -, -, run, -⟩ := stepEnd_runEnd s n .runaway imm .runaway 0 .runaway
      rw [finish_stepEnded started] at run
      rw [is]
      dsimp only
      rw [run]
      exact ⟨rfl, rfl, rfl, rfl⟩
    · have is : p = _ := endStep_end ends
      obtain ⟨only, common, port, run, use, header, -, held⟩ := stepEnd_runEnd s n exit imm .completed
        ((s.step n).exit exit).value exit
      rw [finish_stepEnded started] at run
      rw [is]
      exact ⟨rfl, only, common, port, run, use, header, held⟩

end

end Sys2Proof.Machine
end

section
/-! SUPPORT. The twelve actions as they begin, and the end of an action in a later event (R106 to R114, R121, R126). -/

namespace Sys2Proof.Machine

section
variable {s t u : State} {n : LineNo} {l k : Line} {r q : Reports}

theorem ratePeriod_eq (fallback v : Nat) : ratePeriod fallback v = if v = 0 then fallback else max 16 (min 131071 v) := by
  rw [ratePeriod, clamp_eq (by decide)]

theorem byteArg_eq (v : Nat) : byteArg v = min 255 v := clamp_zero ..

theorem pattern_setBegun (s : State) (n : LineNo) (i : Byte) : (s.setBegun n).pattern n i = s.pattern n i := by
  have begun := becomes_setBegun s n
  unfold State.pattern
  rw [begun.line, block_congr begun.store]

/-- The line as its action has begun. -/
def Line.acted (l : Line) : Line := { l with run := { l.run with begun := true } }

theorem line_setBegun (s : State) (n : LineNo) : (s.setBegun n).line n = (s.line n).acted := (becomes_setBegun s n).line

/-- An action that completes by an update f of the line. -/
theorem completes_of {a : Action} (f : Line → Line) (acting : (s.line n).run.state = .acting)
    (fresh : (s.line n).run.begun = false) (code : (s.step n).action = a.code)
    (does : (s.setBegun n).actOn n a = (t, .completed))
    (becomes : LineBecomes n (s.setBegun n) t (f ((s.setBegun n).line n)) r)
    (keeps : (f (s.line n).acted).run.block = (s.line n).run.block ∧
      (f (s.line n).acted).run.current = (s.line n).run.current ∧
      (f (s.line n).acted).condition = (s.line n).condition)
    (reports : (t.mark n).reports = q)
    (line : (f (s.line n).acted).armed (s.wait n) (s.step n).waitArg.toNat = k) : ∃ u : State, LineBecomes n s u k q ∧
      (s.waitHolds n = false → exec (a.row n) s = .next u.settlePort ∧ s.beginAct n = (u, none)) ∧
      (s.waitHolds n = true → exec (a.row n) s = .next (follow n (u.endStep n .success true)).settlePort ∧
        s.beginAct n = u.endStep n .success true) := by
  rw [line_setBegun] at becomes
  subst line
  obtain ⟨block, current, condition⟩ := keeps
  exact begins_completed acting fresh code does ((becomes_setBegun s n).trans becomes) block current condition reports

theorem actDrive_unlocked (free : s.locked n = false) (o : OutputState) :
    s.actDrive n o = (s.orderDrive n o, .completed) := if_neg (Bool.eq_false_iff.1 free)

theorem becomes_setPeriod (s : State) (n : LineNo) (p : Nat) : LineBecomes n s (s.setPeriod n p)
    { s.line n with period := p } (s.markIf n ((s.line n).period != p)).reports := becomes_markIf n s _ _

theorem markIf_over (same : t.reports = s.reports) (b : Bool) :
    (t.markIf n b).reports = s.reports ∨ (t.markIf n b).reports = (s.mark n).reports := by
  rcases markIf_cases t n b with is | is
  · exact .inl (is.trans same)
  · refine .inr (is.trans ?_)
    unfold State.mark
    rw [same]

theorem mark_orderDrive (same : t.reports = s.reports) (o : OutputState) :
    ((t.orderDrive n o).mark n).reports = (s.mark n).reports :=
  mark_after (by rw [(becomes_orderDrive t n o).reports]; exact markIf_over same _)

theorem mark_setPeriod (same : t.reports = s.reports) (p : Nat) :
    ((t.setPeriod n p).mark n).reports = (s.mark n).reports :=
  mark_after (by rw [(becomes_setPeriod t n p).reports]; exact markIf_over same _)

/-- Settles O32: each action is one update of the line, and then the wait is armed. -/
theorem immediateActions : Obligations.ImmediateActions := by
  intro n s l r st arg armed driven completes
  refine ⟨waitHolds_iff s n, fun acting fresh => ⟨fun code => ?none, fun code empty => ?send, fun code free => ?active,
    fun code free => ?rest, fun code => ?rate, fun code thawed => ?arm, fun code => ?signal, fun code => ?load,
    fun code more => ?count⟩⟩
  case none =>
    exact completes_of (a := .none) id acting fresh code rfl (becomes_same n _) ⟨rfl, rfl, rfl⟩ rfl rfl
  case send =>
    refine completes_of (a := .send) (t := s.setBegun n) id acting fresh code ?_ (becomes_same n _) ⟨rfl, rfl, rfl⟩ rfl rfl
    change (s.setBegun n, if ((s.setBegun n).step n).textLength = 0 then Begun.completed else .inProgress) = _
    rw [step_setBegun, if_pos empty]
  case active =>
    exact completes_of (a := .driveActive) (fun l => l.driven s.now .active) acting fresh code
      (actDrive_unlocked (s := s.setBegun n) free .active) (becomes_orderDrive ..) ⟨rfl, rfl, rfl⟩
      (mark_orderDrive rfl _) rfl
  case rest =>
    exact completes_of (a := .driveRest) (fun l => l.driven s.now .rest) acting fresh code
      (actDrive_unlocked (s := s.setBegun n) free .rest) (becomes_orderDrive ..) ⟨rfl, rfl, rfl⟩
      (mark_orderDrive rfl _) rfl
  case rate =>
    refine completes_of (a := .setRate) (fun l => { l with period := ratePeriod (s.line n).settings.fallback arg })
      acting fresh code ?_ (becomes_setPeriod ..) ⟨rfl, rfl, rfl⟩ (mark_setPeriod rfl _) ?_
    · change ((s.setBegun n).setPeriod n _, Begun.completed) = _
      rw [step_setBegun, line_setBegun]
      rfl
    · rw [ratePeriod_eq]
      rfl
  case arm =>
    refine completes_of (a := .armTrigger) (fun l => { l with
        trigFresh := 0
        cap := { l.cap with
          trigger := .armed, pattern := some (Pattern.ofRecord (s.pattern n st.patternA)), post := postCount arg
          lead := 0, remaining := 0 } }) acting fresh code ?_ (becomes_armTrigger ..) ⟨rfl, rfl, rfl⟩
      (mark_after (s := s) (.inr rfl)) ?_
    · change State.actArm _ _ = _
      unfold State.actArm
      rw [line_setBegun, if_neg (by exact thawed), step_setBegun, pattern_setBegun]
    · rw [postCount_eq]
      rfl
  case signal =>
    refine completes_of (a := .signal) (t := State.raise ((s.setBegun n).modRun n fun r => { r with
        signalCode := byteArg arg, signalTime := s.now }) n .scriptSignal) (fun l => { l with run := { l.run with
        signalCode := byteArg arg, signalTime := s.now } }) acting fresh code ?_ (becomes_raise n _ _ .scriptSignal)
      ⟨rfl, rfl, rfl⟩ (mark_after_raise (s := s) rfl) ?_
    · change State.actSignal _ _ = _
      unfold State.actSignal
      rw [step_setBegun]
      rfl
    · rw [byteArg_eq]
      rfl
  case load =>
    refine completes_of (a := .loadCounter) (t := State.mark ((s.setBegun n).modRun n fun r => { r with
        counter := byteArg arg }) n) (fun l => { l with run := { l.run with counter := byteArg arg } }) acting fresh
      code ?_ (becomes_mark n _ _) ⟨rfl, rfl, rfl⟩ (mark_after (s := s) (.inr rfl)) ?_
    · change State.actLoadCounter _ _ = _
      unfold State.actLoadCounter
      rw [step_setBegun]
    · rw [byteArg_eq]
      rfl
  case count =>
    refine completes_of (a := .countDown) (t := State.mark ((s.setBegun n).modRun n fun r => { r with
        counter := r.counter - 1 }) n) (fun l => { l with run := { l.run with counter := l.run.counter - 1 } }) acting
      fresh code ?_ (becomes_mark n _ _) ⟨rfl, rfl, rfl⟩ (mark_after (s := s) (.inr rfl)) rfl
    change State.actCountDown _ _ = _
    unfold State.actCountDown
    rw [line_setBegun, if_neg (by exact more)]

/-! ## The actions that fail (R121) -/

theorem actDrive_locked (locked : s.locked n = true) (o : OutputState) : s.actDrive n o = (s, .failed .locked) :=
  if_pos locked

theorem failing_row {cmd : Instr} {why : FailureReason} (acting : (s.line n).run.state = .acting)
    (fresh : (s.line n).run.begun = false)
    (fails : (cmd = .pulseAction n ∧ (s.step n).action = 3 ∧ s.locked n = true ∧ why = .locked) ∨
      (cmd = .driveActiveAction n ∧ (s.step n).action = 4 ∧ s.locked n = true ∧ why = .locked) ∨
      (cmd = .driveRestAction n ∧ (s.step n).action = 5 ∧ s.locked n = true ∧ why = .locked) ∨
      (cmd = .countDown n ∧ (s.step n).action = 11 ∧ (s.line n).run.counter = 0 ∧ why = .counterZero) ∨
      (cmd = .armTriggerAction n ∧ (s.step n).action = 8 ∧ (s.line n).cap.trigger = .frozen ∧ why = .frozen)) :
    ∃ v : State,
      LineBecomes n s v { s.line n with run := { (s.line n).run with begun := true, failure := why } } s.reports ∧
      exec cmd s = .next (follow n (v.endStep n .failure true)).settlePort ∧
      s.beginAct n = v.endStep n .failure true := by
  rcases fails with ⟨rfl, code, locked, rfl⟩ | ⟨rfl, code, locked, rfl⟩ | ⟨rfl, code, locked, rfl⟩ |
    ⟨rfl, code, zero, rfl⟩ | ⟨rfl, code, frozen, rfl⟩
  · exact begins_failed (a := .pulse) acting fresh code (if_pos (by exact locked))
  · exact begins_failed (a := .driveActive) acting fresh code (actDrive_locked (s := s.setBegun n) locked _)
  · exact begins_failed (a := .driveRest) acting fresh code (actDrive_locked (s := s.setBegun n) locked _)
  · exact begins_failed (a := .countDown) acting fresh code (if_pos (by rw [line_setBegun]; exact zero))
  · exact begins_failed (a := .armTrigger) acting fresh code (if_pos (by rw [line_setBegun]; exact frozen))

/-- Settles O34: the failure is noted, and the step ends by its Failure exit. -/
theorem failingActions : Obligations.FailingActions := by
  intro n cmd why s l r st acting fresh fails
  obtain ⟨v, becomes, row, begins⟩ := failing_row acting fresh fails
  refine ⟨⟨v, becomes, row, begins⟩, fun kind => ?_⟩
  have step : v.step n = s.step n := by
    refine step_congr becomes.store ?_ ?_ <;> rw [becomes.line]
  have ends : ((v.step n).exit .failure).kind ≠ 0 := by
    rw [step]
    exact fun zero => nomatch kind.symm.trans zero
  have started : (v.line n).run.state ≠ .queued := by
    rw [becomes.line]
    exact fun queued => nomatch acting.symm.trans queued
  obtain ⟨only, common, -, run, -, -, -, held⟩ := stepEnd_runEnd v n .failure true .completed
    ((v.step n).exit .failure).value .failure
  obtain ⟨-, out, cap, -⟩ := stepEnd_line v n .failure true .completed ((v.step n).exit .failure).value .failure
  rw [finish_stepEnded started] at run
  rw [becomes.line] at run out cap
  rw [becomes.now] at run
  rw [becomes.reports] at held
  rw [endStep_end ends, follow_none] at row
  refine ⟨_, row, fun m apart => (only m apart).trans (becomes.others m apart), common.trans becomes.common, out, cap, ?_⟩
  rw [run]
  refine ⟨rfl, rfl, rfl, ?_, held⟩
  rw [step]
  rfl

/-! ## The actions that take time (R107 to R111) -/

theorem actDetect_running (running : (s.line n).det.state ≠ .none) :
    s.actDetect n = (s.modDet n fun d => { d with bound := true }, .inProgress) := by
  unfold State.actDetect
  rw [if_pos ((inProgress_iff _).2 running)]

theorem actDetect_starts (none : (s.line n).det.state = .none) :
    s.actDetect n = (s.startDetection n true, .inProgress) := by
  unfold State.actDetect
  rw [if_neg fun running => (inProgress_iff _).1 running none]

theorem startDetection_dirty (s : State) (n : LineNo) (b : Bool) :
    (s.startDetection n b).reports.dirty.get n = true ∧ (s.startDetection n b).reports.held = s.reports.held :=
  ⟨dirty_grantSlots_of_dirty (s := s.detecting n b) (dirty_mark_self _ n), held_grantSlots (s.detecting n b)⟩

/-- DETECT_RATE as it begins: bound to the detection in progress, or starting one. -/
theorem detectRate_begins (code : (s.step n).action = 7) (acting : (s.line n).run.state = .acting)
    (fresh : (s.line n).run.begun = false) :
    let l := s.line n
    ∃ u : State, exec (.detectRate n) s = .next u.settlePort ∧ s.beginAct n = (u, none) ∧
      (u.line n).run = { l.run with begun := true } ∧
      (u.line n).period = l.period ∧ (u.line n).det.bound = true ∧ u.common = s.common ∧
      (l.det.state ≠ .none → (u.line n).det = { l.det with bound := true } ∧ u.queue = s.queue ∧ u.slots = s.slots) ∧
      (l.det.state = .none → (u.line n).det.attempts = 0 ∧ (u.line n).det.rejected = 0 ∧
        (u.line n).det.adoption = .none ∧ (u.line n).det.counted = 0 ∧ (u.line n).det.least = none ∧
        (u.line n).det.limit = timerStart l.settings.detectLimit ∧ (u.line n).det.outcome = l.det.outcome ∧
        u.reports.dirty.get n = true ∧
        (s.slots.length < 4 → s.queue = [] →
          u.slots = s.slots ++ [n] ∧ u.queue = [] ∧ (u.line n).det.state = .measuring) ∧
        (4 ≤ s.slots.length →
          u.slots = s.slots ∧ u.queue = s.queue ++ [n] ∧ (u.line n).det.state = .queued)) := by
  have begun := becomes_setBegun s n
  have det : ((s.setBegun n).line n).det = (s.line n).det := by rw [begun.line]
  by_cases none : (s.line n).det.state = .none
  · have does : (s.setBegun n).actOn n .detectRate = ((s.setBegun n).startDetection n true, .inProgress) :=
      actDetect_starts (by rw [det]; exact none)
    obtain ⟨row, begins⟩ := begins_inProgress (a := .detectRate) acting fresh code does
    have line := line_startDetection_state (s.setBegun n) n true
    obtain ⟨free, full⟩ := startDetection_finder (s.setBegun n) n true
    obtain ⟨dirty, -⟩ := startDetection_dirty (s.setBegun n) n true
    refine ⟨_, row, begins, ?_, ?_, ?_, (common_startDetection ..).trans begun.common, fun running => absurd none running,
      fun _ => ⟨?_, ?_, ?_, ?_, ?_, ?_, ?_, dirty, free, full⟩⟩
    all_goals rw [line, begun.line] <;> rfl
  · have does : (s.setBegun n).actOn n .detectRate =
        ((s.setBegun n).modDet n fun d => { d with bound := true }, .inProgress) :=
      actDetect_running (by rw [det]; exact none)
    obtain ⟨row, begins⟩ := begins_inProgress (a := .detectRate) acting fresh code does
    have becomes := begun.trans (becomes_modDet (s.setBegun n) n fun d => { d with bound := true })
    rw [begun.line] at becomes
    refine ⟨_, row, begins, ?_, ?_, ?_, becomes.common, fun _ => ⟨?_, rfl, rfl⟩, fun is => absurd is none⟩
    all_goals rw [becomes.line]

/-! ## The end of an action in a later event (R121, R126) -/

theorem inAction_iff (a : Action) : s.inAction n a = true ↔ ((s.line n).run.state = .acting ∨
    (s.line n).run.state = .paused .acting ∧ (s.line n).run.actionResult = none) ∧ s.action n = some a ∧
    (s.line n).run.begun = true := by
  unfold State.inAction
  simp [and_assoc]

theorem actionEnded_acting {a : Action} (acting : (s.line n).run.state = .acting) (begun : (s.line n).run.begun = true)
    (action : s.action n = some a) (failed : Option FailureReason) : s.actionEnded n a failed =
      follow n (s.afterAct n (match failed with | none => .completed | some w => .failed w) false) :=
  (if_pos ((inAction_iff a).2 ⟨.inl acting, action, begun⟩)).trans (if_pos acting)

theorem actionEnded_paused {a : Action} (paused : (s.line n).run.state = .paused .acting)
    (open_ : (s.line n).run.actionResult = none) (begun : (s.line n).run.begun = true) (action : s.action n = some a)
    (failed : Option FailureReason) : s.actionEnded n a failed =
      (s.modRun n fun r => { r with
        actionResult := some (if failed.isSome then .failed else .completed)
        failure := failed.getD r.failure }).mark n :=
  (if_pos ((inAction_iff a).2 ⟨.inr ⟨paused, open_⟩, action, begun⟩)).trans
    (if_neg fun acting => nomatch acting.symm.trans paused)

/-- A completed action of an event after its beginning: the wait is armed, and one that holds ends the step. -/
theorem afterAct_completed (s : State) (n : LineNo) : follow n (s.afterAct n .completed false) =
    if s.waitHolds n then (s.armWait n).exitStep n .success else s.armWait n := by
  change follow n (if (s.armWait n).waitHolds n then (s.armWait n).endStep n .success false else (s.armWait n, none)) = _
  rw [waitHolds_armWait]
  split
  · rfl
  · rfl

/-- Settles O33: each action by its update of the line, and the later end by the runner's state. -/
theorem actionsThatTakeTime : Obligations.ActionsThatTakeTime := by
  refine ⟨fun n s => ?begins, fun n s => detectRate_begins, fun n a why s => ?ends⟩
  case begins =>
    intro l r st begun order acting fresh
    have set := becomes_setBegun s n
    refine ⟨fun code text => ?send, fun code quiet => ?starts, fun code busy => ?waits, fun code free => ?pulse⟩
    case send =>
      have does : (s.setBegun n).actOn n .send = (s.setBegun n, .inProgress) := by
        change (s.setBegun n, if ((s.setBegun n).step n).textLength = 0 then Begun.completed else .inProgress) = _
        rw [step_setBegun, if_neg text]
      obtain ⟨row, begins⟩ := begins_inProgress (a := .send) acting fresh code does
      exact ⟨_, row, begins, set⟩
    case starts =>
      obtain ⟨row, begins⟩ := begins_inProgress (a := .brk) acting fresh code rfl
      refine ⟨_, row, begins, (set.trans (becomes_modLine n _ _)).as_line ?_⟩
      have silent : (s.line n).tx.isSending = false ∧ (s.line n).tx.isBreak = false := by
        rcases quiet with is | is | ⟨k, is⟩ <;> rw [is] <;> exact ⟨rfl, rfl⟩
      rw [step_setBegun, breakLength_eq, line_setBegun, orderBreak_starts (l := (s.line n).acted) silent.1 silent.2]
      rfl
    case waits =>
      obtain ⟨row, begins⟩ := begins_inProgress (a := .brk) acting fresh code rfl
      refine ⟨_, row, begins, (set.trans (becomes_modLine n _ _)).as_line ?_⟩
      rw [step_setBegun, breakLength_eq, line_setBegun, orderBreak_sending (l := (s.line n).acted) busy]
      rfl
    case pulse =>
      have does : (s.setBegun n).actOn n .pulse =
          ((s.setBegun n).orderPulse n (max 10 (min 60000 (s.step n).actionArg.toNat)), .inProgress) := by
        refine (if_neg (Bool.eq_false_iff.1 free)).trans ?_
        rw [step_setBegun, pulseWidth_eq]
      obtain ⟨row, begins⟩ := begins_inProgress (a := .pulse) acting fresh code does
      refine ⟨_, row, begins, (set.trans (becomes_orderPulse _ n _)).as_line ?_⟩
      rw [line_setBegun]
      rfl
  case ends =>
    intro l r armed
    refine ⟨fun acting begun action => ⟨⟨s.armWait n, becomes_armWait s n, fun no => ?_, fun yes => ?_⟩,
      s.modRun n fun r => { r with failure := why }, becomes_modLine n s _, ?_⟩,
      fun paused open_ begun action => ⟨?_, ?_⟩, fun not => ?_⟩
    · rw [actionEnded_acting acting begun action, afterAct_completed, no]
      rfl
    · rw [actionEnded_acting acting begun action, afterAct_completed, yes]
      rfl
    · exact actionEnded_acting acting begun action _
    · rw [actionEnded_paused paused open_ begun action]
      exact becomes_mark n s _
    · rw [actionEnded_paused paused open_ begun action]
      exact becomes_mark n s _
    · have idle : ¬s.inAction n a = true := by
        rw [inAction_iff]
        rintro ⟨runs, action, begun⟩
        rcases not with ⟨notActing, notPaused⟩ | fresh | other | ⟨paused, result⟩
        · exact runs.elim notActing fun is => notPaused is.1
        · exact nomatch fresh.symm.trans begun
        · exact other action
        · exact runs.elim (fun acting => nomatch acting.symm.trans paused) fun is => result is.2
      exact ⟨if_neg idle, if_neg idle⟩

end

end Sys2Proof.Machine
end

section
/-! SUPPORT. A run ended from outside (R124, R128): the line it leaves, written out, and what it changes beside the
line. -/

namespace Sys2Proof.Machine

section
variable {s t u : State} {n : LineNo} {l k : Line} {r q : Reports}

/-! ## The line (R20, R108, R128, R145) -/

theorem setOwner_eq (l : Line) (o : Owner) : l.setOwner o = { l with
    owner := o
    ownerInForce := if l.tx.isSending then l.ownerInForce else o
    staging := if l.tx.isSending = false ∧ l.ownerInForce.isOperators = true ∧ o.isOperators = false then []
      else l.staging } := by
  cases sending : l.tx.isSending
  · rw [setOwner_quiet sending]
    cases l.ownerInForce.isOperators <;> cases o.isOperators <;> rfl
  · rw [setOwner_sending sending]
    rfl

theorem dropScript_isSending (x : Tx) : x.dropScript.isSending = x.isSending := by
  cases x <;> rfl

/-- The runner as its run is cut. -/
def Runner.cut (r : Runner) (kind : OutcomeKind) (exit : TrailExit) (now : Word) : Runner := { r with
  state := .idle, actionResult := none, stepTimer := none, waitTimer := none, phase := .a, begun := true
  last := some ⟨kind, 0, if r.state = .queued then r.entry else r.current, exit, now⟩
  trail := (if r.state = .queued then r.trail
    else (r.trail ++ ([⟨r.current, exit, now⟩] : List TrailEntry)).drop (r.trail.length + 1 - 8)) }

theorem cut_eq (r : Runner) (kind : OutcomeKind) (exit : TrailExit) (now : Word) :
    (r.cutTrail exit now).finish kind 0 exit now = r.cut kind exit now := by
  by_cases queued : r.state = .queued
  · rw [Runner.cutTrail, Runner.cut, if_pos queued, if_pos queued, if_pos queued, Runner.finish, if_pos queued]
  · rw [Runner.cutTrail, Runner.cut, if_neg queued, if_neg queued, if_neg queued, Runner.finish]
    dsimp only
    rw [if_neg queued, pushTrail_eq]

/-- The owner that the end of a run leaves, as the statements write it. -/
def Line.settledOwner (l : Line) : Owner :=
  if l.owner = .script ∨ l.owner = .lent then (if l.claim then .operator else .free) else l.owner

/-- A break of the run is being sent. -/
def Line.ownBreak (l : Line) : Bool := match l.tx with | .brk b _ => b.byStep | _ => false

/-- Where the transmitter goes as a break of the run being sent is cut. -/
def Line.nextTx (l : Line) : Tx :=
  match l.keptBreaks with
  | d :: _ => .brk d (timerStart d.length)
  | [] => if l.flowHeld then .held else if l.settings.charGap = 0 then .idle else .gap (timerStart l.settings.charGap)

/-- The transmitter as a run is cut. -/
def Line.cutTx (l : Line) : Tx := if l.ownBreak then l.nextTx else l.tx.dropScript

theorem runEnded_eq (l : Line) (kind : OutcomeKind) (code : Byte) (exit : TrailExit) (now : Word) :
    l.runEnded kind code exit now = { l with
      run := l.run.finish kind code exit now, tx := l.tx.dropScript, owner := l.settledOwner
      ownerInForce := if l.tx.isSending then l.ownerInForce else l.settledOwner
      staging := if l.tx.isSending = false ∧ l.ownerInForce.isOperators = true ∧ l.settledOwner.isOperators = false
        then [] else l.staging } := by
  rw [Line.runEnded, setOwner_eq, ownerAfterRun_eq, ← Line.settledOwner]
  dsimp only
  rw [dropScript_isSending]

theorem cutStepBreaks_update (l : Line) : l.cutStepBreaks = { l with
    tx := if l.ownBreak then l.nextTx else l.tx
    breaks := if l.ownBreak then l.keptBreaks.tail else l.keptBreaks } := by
  rw [cutStepBreaks_eq]
  unfold Line.ownBreak
  cases l.tx with
  | brk b k =>
    dsimp only
    split
    · rw [Line.nextTx] <;> rfl
    · rfl
  | idle => rfl
  | gap k => rfl
  | held => rfl
  | sending c => rfl

theorem ownBreak_dropScript {x : Line} (tx : x.tx = l.tx.dropScript) : x.ownBreak = l.ownBreak := by
  unfold Line.ownBreak
  rw [tx]
  cases l.tx <;> rfl

/-- The transmitter of a cut run, as the statements write it. -/
theorem cutTx_eq (l : Line) : l.cutTx =
    match l.tx with
    | .sending c => .sending { c with source := (if c.source = .script then .nobody else c.source) }
    | .brk b t => if b.byStep = true then (match l.keptBreaks with
        | d :: _ => .brk d (timerStart d.length)
        | [] => if l.flowHeld then .held else if l.settings.charGap = 0 then .idle
          else .gap (timerStart l.settings.charGap))
      else .brk b t
    | t => t := by
  unfold Line.cutTx Line.ownBreak
  cases l.tx <;> rfl

theorem runStopped_eq (l : Line) (kind : OutcomeKind) (exit : TrailExit) (now : Word) :
    l.runStopped kind exit now = { l with
      run := l.run.cut kind exit now, tx := l.cutTx
      breaks := if l.ownBreak then l.keptBreaks.tail else l.keptBreaks
      owner := l.settledOwner
      ownerInForce := if l.tx.isSending then l.ownerInForce else l.settledOwner
      staging := if l.tx.isSending = false ∧ l.ownerInForce.isOperators = true ∧ l.settledOwner.isOperators = false
        then [] else l.staging } := by
  have ended := runEnded_eq { l with run := l.run.cutTrail exit now } kind 0 exit now
  have own : (({ l with run := l.run.cutTrail exit now } : Line).runEnded kind 0 exit now).ownBreak = l.ownBreak :=
    ownBreak_dropScript (by rw [ended])
  rw [Line.runStopped, cutStepBreaks_update, own, ended]
  dsimp only
  rw [cut_eq]
  rfl

/-! ## Beside the line -/

theorem header_grantSlot_foldl (xs : List LineNo) (s : State) :
    (xs.foldl State.grantSlot s).reports.headerDirty = s.reports.headerDirty := by
  induction xs generalizing s with
  | nil => rfl
  | cons x xs ih => rw [List.foldl_cons, ih]; rfl

theorem header_grantSlots (s : State) : s.grantSlots.reports.headerDirty = s.reports.headerDirty :=
  header_grantSlot_foldl ..

/-- A cancellation leaves the header's mark and the causes held, and marks no line clean. -/
theorem cancelDetection_marks (s : State) (n : LineNo) :
    (s.cancelDetection n).reports.headerDirty = s.reports.headerDirty ∧
    (s.cancelDetection n).reports.held = s.reports.held ∧
    ∀ m, s.reports.dirty.get m = true → (s.cancelDetection n).reports.dirty.get m = true := by
  by_cases none : (s.line n).det.state = .none
  · rw [cancelDetection_none none]
    exact ⟨rfl, rfl, fun _ dirty => dirty⟩
  · rw [cancelDetection_eq ((inProgress_iff _).2 none)]
    refine ⟨header_grantSlots _, held_grantSlots _, fun m dirty => dirty_grantSlots_of_dirty ?_⟩
    refine (dirty_mark _ n m).trans ?_
    rw [Bool.or_eq_true]
    exact .inr dirty

theorem orderDrive_marks (s : State) (n : LineNo) (o : OutputState) :
    (s.orderDrive n o).reports.headerDirty = s.reports.headerDirty ∧
    (s.orderDrive n o).reports.held = s.reports.held ∧
    ∀ m, s.reports.dirty.get m = true → (s.orderDrive n o).reports.dirty.get m = true := by
  rw [(becomes_orderDrive s n o).reports]
  rcases markIf_cases s n ((s.line n).out.state != o) with is | is
  · rw [is]
    exact ⟨rfl, rfl, fun _ dirty => dirty⟩
  · rw [is]
    exact ⟨rfl, rfl, fun m dirty => by rw [dirty_mark, dirty, Bool.or_true]⟩

theorem runStopped_beside (s : State) (n : LineNo) (kind : OutcomeKind) (exit : TrailExit) :
    (s.runStopped n kind exit).block (s.line n).run.block = (s.block (s.line n).run.block).released ∧
    (∀ b, b ≠ (s.line n).run.block → (s.runStopped n kind exit).block b = s.block b) ∧
    (s.runStopped n kind exit).queue = s.queue ∧ (s.runStopped n kind exit).slots = s.slots ∧
    (s.runStopped n kind exit).reports = (s.markHeader.raise n .scriptEnded).reports ∧
    (s.runStopped n kind exit).port = s.port := by
  have block : ((s.modRun n fun r => r.cutTrail exit s.now).line n).run.block = (s.line n).run.block := by
    rw [line_modRun_self]
    dsimp only
    unfold Runner.cutTrail
    split <;> rfl
  obtain ⟨own, others, -⟩ := endRun_beside (s.modRun n fun r => r.cutTrail exit s.now) n kind 0 exit
  rw [block] at own others
  exact ⟨own, others, rfl, rfl, rfl, rfl⟩

/-- What a run cut changes beside its line: the use of its block, the marks, the cause. -/
theorem cutRun_beside (s : State) (n : LineNo) (kind : OutcomeKind) (exit : TrailExit) :
    let u := s.cutRun n kind exit
    u.block (s.line n).run.block = (s.block (s.line n).run.block).released ∧
    (∀ b, b ≠ (s.line n).run.block → u.block b = s.block b) ∧
    ((s.line n).det.state ≠ .none → n ∉ u.queue ∧ n ∉ u.slots) ∧
    ((s.line n).det.state = .none → u.queue = s.queue ∧ u.slots = s.slots) ∧
    u.reports.headerDirty = true ∧ u.reports.dirty.get n = true ∧
    u.reports.held.get n = s.reports.held.get n ||| 0x001 := by
  obtain ⟨own, others, queue, slots, reports, -⟩ := runStopped_beside s n kind exit
  have det : ((s.runStopped n kind exit).line n).det = (s.line n).det := by
    rw [line_runStopped, runStopped_eq]
  have store : (s.cutRun n kind exit).store = (s.runStopped n kind exit).store :=
    (congrArg Shared.store (becomes_orderDrive _ n .rest).shared).trans (store_cancelDetection ..)
  have finder : (s.cutRun n kind exit).queue = ((s.runStopped n kind exit).cancelDetection n).queue ∧
      (s.cutRun n kind exit).slots = ((s.runStopped n kind exit).cancelDetection n).slots :=
    ⟨congrArg Shared.queue (becomes_orderDrive _ n .rest).shared, congrArg Shared.slots (becomes_orderDrive _ n .rest).shared⟩
  obtain ⟨header, held, dirty⟩ := cancelDetection_marks (s.runStopped n kind exit) n
  obtain ⟨header', held', dirty'⟩ := orderDrive_marks ((s.runStopped n kind exit).cancelDetection n) n .rest
  refine ⟨(block_congr store _).trans own, fun b apart => (block_congr store b).trans (others b apart), fun running => ?_,
    fun none => ?_, ?_, dirty' n (dirty n ?_), ?_⟩
  · rw [finder.1, finder.2]
    exact cancelDetection_gone (by rw [det]; exact running)
  · rw [finder.1, finder.2, cancelDetection_none (by rw [det]; exact none)]
    exact ⟨queue, slots⟩
  · rw [cutRun_eq, header', header, reports]
    rfl
  · rw [reports]
    exact dirty_raise_self ..
  · rw [cutRun_eq, held', held, reports]
    exact held_raise_self ..

/-! ## ABORT (R128, R153) -/

theorem lost_iff (l : Line) (o : Owner) :
    (l.tx.isSending = false ∧ l.ownerInForce.isOperators = true ∧ o.isOperators = false) ↔
      (¬l.tx.isSending = true ∧ (l.ownerInForce = .operator ∨ l.ownerInForce = .lent) ∧ o ≠ .operator ∧ o ≠ .lent) := by
  rw [isOperators_iff, Bool.not_eq_true, ← Bool.not_eq_true o.isOperators, isOperators_iff, not_or]

/-- What the record of a request leaves beside its line. -/
theorem recordResult_beside (n : LineNo) (tag : Word) (p : State × ReqResult) :
    (State.recordResult n tag p).port = p.1.port ∧ (State.recordResult n tag p).queue = p.1.queue ∧
    (State.recordResult n tag p).slots = p.1.slots ∧ (State.recordResult n tag p).store = p.1.store ∧
    (State.recordResult n tag p).reports = (p.1.raise n .requestTaken).reports ∧
    (State.recordResult n tag p).others n = p.1.others n :=
  ⟨rfl, rfl, rfl, rfl, rfl, (others_raise ..).trans (others_modLine ..)⟩

theorem header_raise (s : State) (n : LineNo) (c : LineCause) :
    (s.raise n c).reports.headerDirty = s.reports.headerDirty := rfl

/-- Settles O43: an IDLE runner is left, and any other run is cut. -/
theorem abortRequest : Obligations.AbortRequest := by
  intro n tag s running used l r kept ownCut owner lost sending measuring
  have takes := takes_of running used
  refine ⟨fun idle => ?idle, fun busy => ?cut⟩
  case idle =>
    refine request_refused (p := s.judgeAbort n) (if_pos takes) ?_
    unfold State.judgeAbort
    rw [if_pos idle]
  case cut =>
    have judged : s.judgeAbort n = (s.cutRun n .aborted .endedByAbort, .accepted) := by
      unfold State.judgeAbort
      rw [if_neg busy]
    obtain ⟨own, others, gone, stays, header, dirty, held⟩ := cutRun_beside s n .aborted .endedByAbort
    obtain ⟨port, queue, slots, store, reports, apart⟩ :=
      recordResult_beside n tag (s.cutRun n .aborted .endedByAbort, .accepted)
    refine ⟨State.recordResult n tag (s.judgeAbort n), if_pos takes, ?_⟩
    rw [judged, port, queue, slots, reports, header_raise, dirty_raise_self, held_raise_self, held]
    refine ⟨(common_recordResult' ..).trans (common_cutRun ..), (port_cutRun s n .aborted .endedByAbort), ?_, gone, stays,
      (block_congr store _).trans own, fun c other => (block_congr store c).trans (others c other), header, rfl, rfl,
      fun m other => sameButDetection_of_others (apart.trans (others_cutRun ..)) other⟩
    rw [line_recordResult, line_cutRun, Line.runCut, runStopped_eq, cutTx_eq]
    dsimp only [Line.undetected, Line.driven]
    rw [if_congr (lost_iff _ _) rfl rfl] <;> rfl

end

end Sys2Proof.Machine
end

section
/-! SUPPORT. START, PAUSE and RESUME (R104, R105, R125 to R127, R145). -/

namespace Sys2Proof.Machine

section
variable {s t u : State} {n : LineNo} {l k : Line} {r q : Reports}

/-! ## PAUSE (R125, R145) -/

/-- The marks of a change of owner, over a mark. -/
theorem owned_marks (reports : t.reports = (s.mark n).reports) (o : Owner) :
    (t.owned n o).reports = (s.mark n).reports := by
  rw [(becomes_owned t n o).reports]
  split
  · exact reports
  · exact mark_after (.inr reports)

/-- The state as a runner has been paused, before its owner is settled. -/
def State.pausing (s : State) (n : LineNo) (left : PausedFrom) : State :=
  (s.modRun n fun r => { r with state := .paused left }).mark n

theorem becomes_pausing (s : State) (n : LineNo) (left : PausedFrom) : LineBecomes n s (s.pausing n left)
    { s.line n with run := { (s.line n).run with state := .paused left } } (s.mark n).reports := becomes_mark n s _

theorem acceptPause_eq (s : State) (n : LineNo) (left : PausedFrom) : s.acceptPause n left =
    if ((s.pausing n left).line n).owner = .script ∧ ((s.pausing n left).line n).claim = true then
      (s.pausing n left).giveOwner n .lent else s.pausing n left := rfl

theorem acceptPause_stays (left : PausedFrom) (stays : (s.line n).owner ≠ .script ∨ (s.line n).claim = false) :
    s.acceptPause n left = s.pausing n left := by
  rw [acceptPause_eq, (becomes_pausing s n left).line]
  refine if_neg ?_
  rintro ⟨script, claim⟩
  exact stays.elim (fun no => no script) fun no => nomatch no.symm.trans claim

theorem acceptPause_lends (left : PausedFrom) (script : (s.line n).owner = .script) (claim : (s.line n).claim = true) :
    LineBecomes n s (s.acceptPause n left) { s.line n with
      owner := .lent, ownerInForce := (if (s.line n).tx.isSending then (s.line n).ownerInForce else .lent)
      run := { (s.line n).run with state := .paused left } } (s.mark n).reports := by
  have paused := becomes_pausing s n left
  have given : s.acceptPause n left = (s.pausing n left).owned n .lent := by
    rw [acceptPause_eq, paused.line]
    exact (if_pos ⟨script, claim⟩).trans (giveOwner_only (.inr (.inr nofun)))
  rw [given]
  have owned := paused.trans (becomes_owned (s.pausing n left) n .lent)
  refine owned.as ?_ ((becomes_owned ..).reports.symm.trans (owned_marks paused.reports .lent))
  rw [paused.line, setOwner_eq]
  have kept : ¬((s.line n).tx.isSending = false ∧ (s.line n).ownerInForce.isOperators = true ∧
      Owner.lent.isOperators = false) := fun h => nomatch h.2.2
  dsimp only
  rw [if_neg kept]

theorem judgePause_running {p : PausedFrom} (on : (s.line n).status = .on)
    (state : (s.line n).run.state = (match p with | .acting => .acting | .waiting => .waiting)) :
    s.judgePause n = (s.acceptPause n p, .accepted) := by
  refine (unlessOn_on on _ _).trans ?_
  rw [state]
  cases p <;> rfl

theorem judgePause_idle (on : (s.line n).status = .on) (acting : (s.line n).run.state ≠ .acting)
    (waiting : (s.line n).run.state ≠ .waiting) : s.judgePause n = (s, .notRunning) := by
  refine (unlessOn_on on _ _).trans ?_
  split
  next is => exact absurd is acting
  next is => exact absurd is waiting
  next => rfl

/-! ## RESUME (R127, R145) -/

/-- The line as its runner goes on in the state st (R127), before its owner is settled. -/
def Line.unpaused (l : Line) (st : RunnerState) : Line :=
  { l with scriptFresh := 0, run := { l.run with state := st, actionResult := none } }

/-- The line as its runner goes on in the state st (R127), its owner settled. -/
def Line.resumed (l : Line) (st : RunnerState) : Line :=
  let k : Line := { l with scriptFresh := 0, run := { l.run with state := st, actionResult := none } }
  if l.owner ≠ .lent then k
  else if l.tx.isSending then { k with owner := .script }
  else { k with
    owner := .script, ownerInForce := .script
    staging := (if l.ownerInForce = .operator ∨ l.ownerInForce = .lent then [] else l.staging) }

/-- The state as the runner goes on in the state st, before it does. -/
def State.resuming (s : State) (n : LineNo) (st : RunnerState) : State :=
  let t := (s.modLine n fun l => l.unpaused st).mark n
  if (t.line n).owner = .lent then t.giveOwner n .script else t

theorem becomes_resuming {st : RunnerState} (started : st ≠ .queued) : LineBecomes n s (s.resuming n st)
    ((s.line n).resumed st) (s.mark n).reports := by
  have fresh := becomes_mark n s fun l => l.unpaused st
  unfold State.resuming Line.resumed
  dsimp only
  generalize (s.modLine n fun l => l.unpaused st).mark n = t at *
  have owner : (t.line n).owner = (s.line n).owner := by
    rw [fresh.line]
    rfl
  rw [owner]
  by_cases lent : (s.line n).owner = .lent
  · have given : t.giveOwner n .script = t.owned n .script := giveOwner_only (.inr (.inl (by
      rw [fresh.line]
      exact started)))
    rw [if_pos lent, if_neg (not_not.2 lent), given]
    refine (fresh.trans (becomes_owned t n .script)).as ?_
      ((becomes_owned ..).reports.symm.trans (owned_marks fresh.reports .script))
    rw [fresh.line]
    cases sending : (s.line n).tx.isSending
    · rw [setOwner_quiet (l := (s.line n).unpaused st) sending]
      have lost : ((s.line n).ownerInForce.isOperators && !Owner.script.isOperators) = true ↔
          (s.line n).ownerInForce = .operator ∨ (s.line n).ownerInForce = .lent := by
        rw [← isOperators_iff]
        exact Bool.and_eq_true_iff.trans (and_iff_left rfl)
      rw [← if_congr lost rfl rfl]
      rfl
    · rw [setOwner_sending (l := (s.line n).unpaused st) sending]
      rfl
  · rw [if_neg lent, if_pos lent]
    exact fresh

theorem resumed_run (l : Line) (st : RunnerState) :
    (l.resumed st).run = { l.run with state := st, actionResult := none } ∧ (l.resumed st).condition = l.condition := by
  unfold Line.resumed
  dsimp only
  split
  · exact ⟨rfl, rfl⟩
  · split <;> exact ⟨rfl, rfl⟩

theorem judgeResume_paused {p : PausedFrom} (on : (s.line n).status = .on) (state : (s.line n).run.state = .paused p) :
    s.judgeResume n = (s.acceptResume n p, .accepted) := by
  refine (unlessOn_on on _ _).trans ?_
  rw [state]

theorem judgeResume_other (on : (s.line n).status = .on) (other : ∀ p, (s.line n).run.state ≠ .paused p) :
    s.judgeResume n = (s, .notPaused) := by
  refine (unlessOn_on on _ _).trans ?_
  split
  next p is => exact absurd is (other p)
  next => rfl

theorem acceptResume_acting (s : State) (n : LineNo) : s.acceptResume n .acting =
    match (s.line n).run.actionResult with
    | none => s.resuming n .acting
    | some .completed => follow n ((s.resuming n .acting).afterAct n .completed false)
    | some .failed => (s.resuming n .acting).exitStep n .failure := by
  unfold State.acceptResume
  cases (s.line n).run.actionResult with
  | none => rfl
  | some res => cases res <;> rfl

/-- The condition now satisfies the wait (R117). -/
theorem acceptResume_waiting (s : State) (n : LineNo) : s.acceptResume n .waiting =
    if (s.step n).wait = 7 ∧ (s.line n).condition = .marking ∨ (s.step n).wait = 8 ∧ (s.line n).condition = .spacing
    then follow n ((s.resuming n .waiting).endStep n .success false) else s.resuming n .waiting := by
  have resumed := becomes_resuming (s := s) (n := n) (st := .waiting) nofun
  obtain ⟨run, condition⟩ := resumed_run (s.line n) .waiting
  have step : (s.resuming n .waiting).step n = s.step n := by
    refine step_congr resumed.store ?_ ?_ <;> rw [resumed.line, run]
  have wait : (s.resuming n .waiting).wait n = s.wait n := congrArg (fun r : StepRecord => Wait.ofCode r.wait) step
  have cond : ((s.resuming n .waiting).line n).condition = (s.line n).condition := by rw [resumed.line, condition]
  have is : s.acceptResume n .waiting =
      match (s.resuming n .waiting).wait n, ((s.resuming n .waiting).line n).condition with
      | some .marking, .marking => (s.resuming n .waiting).exitStep n .success
      | some .spacing, .spacing => (s.resuming n .waiting).exitStep n .success
      | _, _ => s.resuming n .waiting := by
    unfold State.acceptResume
    cases (s.line n).run.actionResult <;> rfl
  rw [is, wait, cond]
  split
  next marking now => exact (if_pos (.inl ⟨wait_iff.1 marking, now⟩)).symm
  next spacing now => exact (if_pos (.inr ⟨wait_iff.1 spacing, now⟩)).symm
  next notMarking notSpacing =>
    refine (if_neg ?_).symm
    rintro (⟨code, now⟩ | ⟨code, now⟩)
    · exact notMarking (wait_iff.2 code) now
    · exact notSpacing (wait_iff.2 code) now

/-- Settles O42: PAUSE by its two changes of owner, RESUME by where the runner paused. -/
theorem pauseAndResume : Obligations.PauseAndResume := by
  intro n tag s running used l r becomes record resumed resumes
  have takes := takes_of running used
  have acts := becomes_resuming (s := s) (n := n) (st := .acting) nofun
  have waits := becomes_resuming (s := s) (n := n) (st := .waiting) nofun
  refine ⟨fun off => ⟨request_refused (if_pos takes) (unlessOn_off off _ _),
      request_refused (if_pos takes) (unlessOn_off off _ _)⟩,
    fun on acting waiting => request_refused (if_pos takes) (judgePause_idle on acting waiting),
    fun on other => request_refused (if_pos takes) (judgeResume_other on other),
    fun on p state => ⟨fun stays => ?stays, fun script claim => ?lends⟩, fun on state => ?acting, fun on state => ?waiting⟩
  case stays =>
    refine request_becomes (by exact if_pos takes) (judgePause_running on state) ?_ (.inr rfl)
    rw [acceptPause_stays p stays]
    exact becomes_pausing s n p
  case lends =>
    exact request_becomes (by exact if_pos takes) (judgePause_running on state) (acceptPause_lends p script claim) (.inr rfl)
  case acting =>
    have judged := judgeResume_paused on state
    have accepted := acceptResume_acting s n
    refine ⟨fun none => ?_, fun completed => ⟨_, acts, ?_⟩, fun failed => ⟨_, acts, ?_⟩⟩
    · rw [none] at accepted
      refine request_becomes (by exact if_pos takes) judged ?_ (.inr rfl)
      rw [accepted]
      exact acts
    · rw [completed] at accepted
      obtain ⟨run, condition⟩ := resumed_run (s.line n) .acting
      have step : (s.resuming n .acting).step n = s.step n := by
        refine step_congr acts.store ?_ ?_ <;> rw [acts.line, run]
      have holds : (s.resuming n .acting).waitHolds n = s.waitHolds n :=
        waitHolds_congr step (by rw [acts.line, condition])
      dsimp only at accepted
      rw [afterAct_completed, holds] at accepted
      refine (if_pos takes).trans ?_
      rw [judged, accepted]
      rfl
    · rw [failed] at accepted
      refine (if_pos takes).trans ?_
      rw [judged, accepted]
      rfl
  case waiting =>
    have judged := judgeResume_paused on state
    have accepted := acceptResume_waiting s n
    refine ⟨fun now => ⟨_, waits, ?_⟩, fun not => ?_⟩
    · rw [if_pos now] at accepted
      refine (if_pos takes).trans ?_
      rw [judged, accepted]
      rfl
    · rw [if_neg not] at accepted
      refine request_becomes (by exact if_pos takes) judged ?_ (.inr rfl)
      rw [accepted]
      exact waits

end

end Sys2Proof.Machine
end

section
/-! SUPPORT. START (R104, R105, R145). -/

namespace Sys2Proof.Machine

section
variable {s t u : State} {n : LineNo} {l k : Line} {r q : Reports}

/-- The runner as a START is accepted. -/
def Runner.queuedAt (r : Runner) (b : BlockNo) (entry : Nat) : Runner := { r with
  state := .queued, block := b, entry := entry, counter := 0, immediate := 0, trail := [], failure := .none }

/-- The line as a START is accepted. -/
def Line.queuedAt (l : Line) (b : BlockNo) (entry : Nat) : Line := { l with run := l.run.queuedAt b entry }

/-- The block of an accepted START, one use more. -/
def Block.taken (k : Block) : Block := { k with useCount := k.useCount + 1 }

/-- The state as a START is accepted, before a FREE line is taken. -/
def State.queuing (s : State) (n : LineNo) (b : BlockNo) (entry : Nat) : State :=
  (((s.modRun n fun r => r.queuedAt b entry).modBlock b Block.taken).markHeader).mark n

theorem acceptStart_eq (s : State) (n : LineNo) (b : BlockNo) (entry : Nat) : s.acceptStart n b entry =
    if ((s.queuing n b entry).line n).owner = .free then (s.queuing n b entry).giveOwner n .script
    else s.queuing n b entry := rfl

theorem line_queuing (s : State) (n : LineNo) (b : BlockNo) (entry : Nat) :
    (s.queuing n b entry).line n = (s.line n).queuedAt b entry := by
  rw [State.queuing, line_mark, line_markHeader, line_modBlock, line_modRun_self]
  rfl

theorem queuing_beside (s : State) (n : LineNo) (b : BlockNo) (entry : Nat) :
    OnlyLine n s (s.queuing n b entry) ∧ (s.queuing n b entry).common = s.common ∧
    (s.queuing n b entry).block b = (s.block b).taken ∧
    (∀ c, c ≠ b → (s.queuing n b entry).block c = s.block c) ∧
    (s.queuing n b entry).reports = (s.markHeader.mark n).reports :=
  ⟨fun m apart => by
      rw [State.queuing, line_mark, line_markHeader, line_modBlock]
      exact line_modLine_ne s _ apart, rfl, block_modBlock_self _ b Block.taken,
    fun _ apart => block_modBlock_ne _ Block.taken apart, rfl⟩

/-! ## The judgement, test by test -/

theorem judgeStart_busy {block entry : Word} (busy : (s.line n).run.state ≠ .idle) :
    s.judgeStart n block entry = (s, .notIdle) := if_pos busy

theorem judgeStart_beyond {block entry : Word} (idle : (s.line n).run.state = .idle) (beyond : 16 ≤ block.toNat) :
    s.judgeStart n block entry = (s, .blockNotReady) :=
  (if_neg (not_not.2 idle)).trans (dif_neg (Nat.not_lt.2 beyond))

/-- The tests of a START of a block that there is, in their order. -/
theorem judgeStart_tests {block : Word} (entry : Word) (idle : (s.line n).run.state = .idle) (fits : block.toNat < 16) :
    s.judgeStart n block entry =
      if (s.block ⟨block.toNat, fits⟩).state ≠ .ready then (s, .blockNotReady)
      else if (s.block ⟨block.toNat, fits⟩).stepCount ≤ entry.toNat then (s, .stepRange)
      else if !s.isOn n then (s, .lineOff)
      else (s.acceptStart n ⟨block.toNat, fits⟩ entry.toNat, .accepted) :=
  (if_neg (not_not.2 idle)).trans (dif_pos fits)

theorem judgeStart_accepted {block entry : Word} (idle : (s.line n).run.state = .idle) (fits : block.toNat < 16)
    (ready : (s.block ⟨block.toNat, fits⟩).state = .ready)
    (within : entry.toNat < (s.block ⟨block.toNat, fits⟩).stepCount) (on : (s.line n).status = .on) :
    s.judgeStart n block entry = (s.acceptStart n ⟨block.toNat, fits⟩ entry.toNat, .accepted) :=
  (judgeStart_tests entry idle fits).trans ((if_neg (not_not.2 ready)).trans
    ((if_neg (Nat.not_le.2 within)).trans (unlessOn_on on _ _)))

/-! ## A START that runs at once (R105) -/

theorem wait_ofCode_eq {w : Byte} {x : Wait} (is : w = x.code) : Wait.ofCode w = some x := wait_ofCode_iff.2 is

/-- The Wait Timer of a wait as it is armed, by the code of the wait. -/
theorem waitTimerOf_eq (w : Byte) (arg : Nat) : waitTimerOf (Wait.ofCode w) arg =
    if w = 4 then some (max 1 (min 60000 arg) + 1) else if w = 6 then some (min 600000 arg + 1) else none := by
  by_cases quiet : w = 4
  · rw [if_pos quiet, wait_ofCode_eq (x := .quiet) quiet, waitTimerOf, quietTime_eq, timerStart]
  · by_cases elapse : w = 6
    · rw [if_neg quiet, if_pos elapse, wait_ofCode_eq (x := .elapse) elapse, waitTimerOf, elapseTime_eq, timerStart]
    · rw [if_neg quiet, if_neg elapse]
      unfold waitTimerOf
      split
      next is => exact absurd (wait_ofCode_iff.1 is) quiet
      next is => exact absurd (wait_ofCode_iff.1 is) elapse
      next => rfl

/-- The waits that do not hold as they are armed, on a line in the condition c. -/
theorem waitHolds_of_waits {rec_ : StepRecord} {c : Condition} (waits : rec_.wait = 1 ∨ rec_.wait = 2 ∨ rec_.wait = 3 ∨
      rec_.wait = 4 ∨ (rec_.wait = 5 ∧ rec_.waitArg ≠ 0) ∨ (rec_.wait = 6 ∧ rec_.waitArg ≠ 0) ∨
      (rec_.wait = 7 ∧ c = .spacing) ∨ (rec_.wait = 8 ∧ c = .marking))
    (step : t.step n = rec_) (condition : (t.line n).condition = c) : t.waitHolds n = false := by
  rw [Bool.eq_false_iff]
  intro holds
  rw [waitHolds_iff, step, condition] at holds
  rcases waits with w | w | w | w | ⟨w, arg⟩ | ⟨w, arg⟩ | ⟨w, is⟩ | ⟨w, is⟩
  · simp [w] at holds
  · simp [w] at holds
  · simp [w] at holds
  · simp [w] at holds
  · simp [w] at holds
    exact arg holds
  · simp [w] at holds
    exact arg holds
  · simp [w, is] at holds
  · simp [w, is] at holds

/-- The line as SCRIPT owns it and its run starts. -/
def Line.scripted (l : Line) (b : BlockNo) (entry : Nat) : Line :=
  { l.queuedAt b entry with owner := .script, ownerInForce := .script }

/-- The runner's step as its action has begun. -/
def Line.stepBegun (l : Line) (k timeout : Nat) : Line := (l.stepStarted k timeout).acted

/-- An accepted START on a FREE line with no character in progress: SCRIPT owns it, and its entry step, a NONE action
whose wait does not hold at arming, is WAITING. -/
theorem acceptStart_waits {b : BlockNo} {entry : Nat} {rec_ : StepRecord} (free : (s.line n).owner = .free)
    (inForce : (s.line n).ownerInForce = .free) (quiet : (s.line n).tx.isSending = false)
    (at_ : (s.block b).steps[entry]? = some rec_) (action : rec_.action = 0)
    (waits : rec_.wait = 1 ∨ rec_.wait = 2 ∨ rec_.wait = 3 ∨ rec_.wait = 4 ∨ (rec_.wait = 5 ∧ rec_.waitArg ≠ 0) ∨
      (rec_.wait = 6 ∧ rec_.waitArg ≠ 0) ∨ (rec_.wait = 7 ∧ (s.line n).condition = .spacing) ∨
      (rec_.wait = 8 ∧ (s.line n).condition = .marking)) :
    ∃ r, LineBecomes n (s.queuing n b entry) (s.acceptStart n b entry)
      ((((s.line n).scripted b entry).stepBegun entry rec_.timeout.toNat).armed (Wait.ofCode rec_.wait)
        rec_.waitArg.toNat) r := by
  have line := line_queuing s n b entry
  obtain ⟨-, -, block, -⟩ := queuing_beside s n b entry
  have given : s.acceptStart n b entry = follow n ((s.queuing n b entry).owned n .script, some entry) := by
    rw [acceptStart_eq, line]
    refine (if_pos free).trans ((giveOwner_starts ?_ ?_).trans ?_)
    · rw [line]; exact quiet
    · rw [line]; rfl
    · rw [line]; rfl
  have owned := becomes_owned (s.queuing n b entry) n .script
  have scripted : ((s.queuing n b entry).line n).setOwner .script = (s.line n).scripted b entry := by
    have kept : ¬(((s.line n).queuedAt b entry).ownerInForce.isOperators && !Owner.script.isOperators) = true := by
      change ¬((s.line n).ownerInForce.isOperators && _) = true
      rw [inForce]
      decide
    rw [line, setOwner_quiet (l := (s.line n).queuedAt b entry) quiet, if_neg kept]
    rfl
  rw [scripted] at owned
  generalize (s.queuing n b entry).owned n .script = t at *
  have record : t.stepAt n entry = rec_ := by
    unfold State.stepAt
    rw [owned.line, block_congr owned.store]
    change ((s.queuing n b entry).block b).steps.getD entry .absent = _
    rw [block, List.getD_eq_getElem?_getD]
    exact congrArg (fun o => o.getD StepRecord.absent) at_
  have begins := starts_waiting (s := t) (n := n) (k := entry) record action
    (waitHolds_of_waits waits ((step_startStep t n entry).trans record)
      (by rw [(becomes_startStep t n entry).line, owned.line]; rfl))
  rw [given]
  refine ⟨_, (owned.trans begins).as_line ?_⟩
  rw [owned.line]
  rfl

/-- Settles O41: the tests in their order, and an accepted START by the line's owner. -/
theorem startRequest : Obligations.StartRequest := by
  refine ⟨fun n tag block entry s running used => ?judged, fun n tag block entry st s running used fits => ?runs⟩
  case judged =>
    intro l refused
    have takes := takes_of running used
    refine ⟨fun busy => request_refused (if_pos takes) (judgeStart_busy busy),
      fun idle beyond => request_refused (if_pos takes) (judgeStart_beyond idle beyond), fun fits => ?_⟩
    intro b idle
    have tests := judgeStart_tests entry idle fits
    refine ⟨fun unready => request_refused (if_pos takes) (tests.trans (if_pos unready)), fun ready beyond => ?_,
      fun ready within off => ?_, fun ready within on operator => ?_⟩
    · rw [if_neg (not_not.2 ready), if_pos beyond] at tests
      exact request_refused (if_pos takes) tests
    · rw [if_neg (not_not.2 ready), if_neg (Nat.not_le.2 within), unlessOn_off off] at tests
      exact request_refused (if_pos takes) tests
    · have queued : s.acceptStart n b entry.toNat = s.queuing n b entry.toNat := by
        rw [acceptStart_eq, line_queuing]
        refine if_neg fun free => ?_
        have both : Owner.operator = .free := operator.symm.trans free
        exact nomatch both
      obtain ⟨only, common, own, others, reports⟩ := queuing_beside s n b entry.toNat
      obtain ⟨-, -, -, store, raised, -⟩ := recordResult_beside n tag (s.queuing n b entry.toNat, .accepted)
      refine ⟨State.recordResult n tag (s.judgeStart n block entry), if_pos takes, ?_⟩
      rw [judgeStart_accepted idle fits ready within on, queued, raised]
      refine ⟨fun m apart => ?_, (common_recordResult' ..).trans common, ?_, (block_congr store _).trans own,
        fun c apart => (block_congr store c).trans (others c apart), ?_, ?_⟩
      · rw [State.recordResult, line_raise]
        exact (line_modLine_ne _ _ apart).trans (only m apart)
      · rw [line_recordResult, line_queuing]
        rfl
      · rw [header_raise, reports]
        rfl
      · rw [held_raise_self, reports]
        rfl
  case runs =>
    intro b l idle ready within on free inForce quiet at_ action waits
    have takes := takes_of running used
    obtain ⟨only, common, own, others, -⟩ := queuing_beside s n b entry.toNat
    obtain ⟨r, becomes⟩ := acceptStart_waits free inForce quiet at_ action waits
    obtain ⟨-, -, -, store, -⟩ := recordResult_beside n tag (s.acceptStart n b entry.toNat, .accepted)
    refine ⟨State.recordResult n tag (s.judgeStart n block entry), if_pos takes, ?_⟩
    rw [judgeStart_accepted idle fits ready within on, line_recordResult, becomes.line]
    refine ⟨fun m apart => ?_, (common_recordResult' ..).trans (becomes.common.trans common), rfl, rfl, rfl, rfl, rfl, rfl,
      rfl, rfl, rfl, stepTimerOf_eq _, waitTimerOf_eq _ _, fun count => ?_, rfl, ?_⟩
    · rw [State.recordResult, line_raise]
      exact (line_modLine_ne _ _ apart).trans ((becomes.others m apart).trans (only m apart))
    · exact if_pos (wait_ofCode_eq (x := .count) count)
    · rw [block_congr store, block_congr becomes.store, own]
      rfl

end

end Sys2Proof.Machine
end

section
/-! SUPPORT. The checks at an enable (R2), a line as it goes ON (R4), and the station's view of a CONFIG_BAD line (R3). -/

namespace Sys2Proof.Machine

/-! ## The codes of the enumerated settings (R2; 13_record_layouts.md, Codes) -/

def DataBits.code : DataBits → Byte | .seven => 7 | .eight => 8
def StopBits.code : StopBits → Byte | .one => 1 | .two => 2
def Parity.byte : Parity → Byte | .none => 0 | .even => 1 | .odd => 2
def RateMode.code : RateMode → Byte | .fixed => 0 | .detectOnEnable => 1
def Flow.code : Flow → Byte | .none => 0 | .xonxoff => 1
def CaptureMode.code : CaptureMode → Byte | .hold => 0 | .roll => 1

section
variable {b : Byte}

theorem dataBitsOf_iff {d : DataBits} : dataBitsOf b = some d ↔ b = d.code := by
  unfold dataBitsOf
  split
  next is => subst is; cases d <;> decide
  next seven =>
    split
    next is => subst is; cases d <;> decide
    next eight => cases d <;> exact iff_of_false nofun (by assumption)

theorem stopBitsOf_iff {d : StopBits} : stopBitsOf b = some d ↔ b = d.code := by
  unfold stopBitsOf
  split
  next is => subst is; cases d <;> decide
  next one =>
    split
    next is => subst is; cases d <;> decide
    next two => cases d <;> exact iff_of_false nofun (by assumption)

theorem parityOf_iff {d : Parity} : parityOf b = some d ↔ b = d.byte := by
  unfold parityOf
  split
  next is => subst is; cases d <;> decide
  next zero =>
    split
    next is => subst is; cases d <;> decide
    next one =>
      split
      next is => subst is; cases d <;> decide
      next two => cases d <;> exact iff_of_false nofun (by assumption)

theorem rateModeOf_iff {d : RateMode} : rateModeOf b = some d ↔ b = d.code := by
  unfold rateModeOf
  split
  next is => subst is; cases d <;> decide
  next zero =>
    split
    next is => subst is; cases d <;> decide
    next one => cases d <;> exact iff_of_false nofun (by assumption)

theorem flowOf_iff {d : Flow} : flowOf b = some d ↔ b = d.code := by
  unfold flowOf
  split
  next is => subst is; cases d <;> decide
  next zero =>
    split
    next is => subst is; cases d <;> decide
    next one => cases d <;> exact iff_of_false nofun (by assumption)

theorem captureModeOf_iff {d : CaptureMode} : captureModeOf b = some d ↔ b = d.code := by
  unfold captureModeOf
  split
  next is => subst is; cases d <;> decide
  next zero =>
    split
    next is => subst is; cases d <;> decide
    next one => cases d <;> exact iff_of_false nofun (by assumption)

end

section
variable {s t u : State} {n : LineNo} {l k : Line} {h : LineHost} {f : Format}

/-- A format is its six codes, each with a code of its own. -/
theorem formatOf_iff : formatOf h = some f ↔ h.dataBits = f.dataBits.code ∧ h.parity = f.parity.byte ∧
    h.stopBits = f.stopBits.code ∧ h.rateMode = f.rateMode.code ∧ h.flow = f.flow.code ∧
    h.captureMode = f.captureMode.code := by
  rw [← dataBitsOf_iff, ← parityOf_iff, ← stopBitsOf_iff, ← rateModeOf_iff, ← flowOf_iff, ← captureModeOf_iff]
  unfold formatOf
  constructor
  · intro is
    split at is
    next d p st r fl c hd hp hst hr hf hc =>
      cases is
      exact ⟨hd, hp, hst, hr, hf, hc⟩
    next => cases is
  · rintro ⟨hd, hp, hst, hr, hf, hc⟩
    rw [hd, hp, hst, hr, hf, hc]

/-- Every one of the six codes names something. -/
def FormatOk (h : LineHost) : Prop := (h.dataBits = 7 ∨ h.dataBits = 8) ∧ (h.stopBits = 1 ∨ h.stopBits = 2) ∧
  h.parity.toNat < 3 ∧ h.rateMode.toNat < 2 ∧ h.flow.toNat < 2 ∧ h.captureMode.toNat < 2

theorem formatOk_of_formatOf (is : formatOf h = some f) : FormatOk h := by
  obtain ⟨d, p, st, r, fl, c⟩ := formatOf_iff.1 is
  refine ⟨?_, ?_, ?_, ?_, ?_, ?_⟩
  · rw [d]; cases f.dataBits <;> decide
  · rw [st]; cases f.stopBits <;> decide
  · rw [p]; cases f.parity <;> decide
  · rw [r]; cases f.rateMode <;> decide
  · rw [fl]; cases f.flow <;> decide
  · rw [c]; cases f.captureMode <;> decide

theorem byte_two {b : Byte} (below : b.toNat < 2) : b = 0 ∨ b = 1 := by bv_omega
theorem byte_three {b : Byte} (below : b.toNat < 3) : b = 0 ∨ b = 1 ∨ b = 2 := by bv_omega

theorem formatOf_of_formatOk (ok : FormatOk h) : ∃ f, formatOf h = some f := by
  obtain ⟨d, st, p, r, fl, c⟩ := ok
  have data : ∃ x, h.dataBits = DataBits.code x := d.elim (fun is => ⟨.seven, is⟩) fun is => ⟨.eight, is⟩
  have stop : ∃ x, h.stopBits = StopBits.code x := st.elim (fun is => ⟨.one, is⟩) fun is => ⟨.two, is⟩
  have par : ∃ x, h.parity = Parity.byte x := (byte_three p).elim (fun is => ⟨.none, is⟩)
    fun rest => rest.elim (fun is => ⟨.even, is⟩) fun is => ⟨.odd, is⟩
  have rate : ∃ x, h.rateMode = RateMode.code x := (byte_two r).elim (fun is => ⟨.fixed, is⟩) fun is => ⟨.detectOnEnable, is⟩
  have flow : ∃ x, h.flow = Flow.code x := (byte_two fl).elim (fun is => ⟨.none, is⟩) fun is => ⟨.xonxoff, is⟩
  have mode : ∃ x, h.captureMode = CaptureMode.code x := (byte_two c).elim (fun is => ⟨.hold, is⟩) fun is => ⟨.roll, is⟩
  obtain ⟨xd, hd⟩ := data
  obtain ⟨xs, hs⟩ := stop
  obtain ⟨xp, hp⟩ := par
  obtain ⟨xr, hr⟩ := rate
  obtain ⟨xf, hf⟩ := flow
  obtain ⟨xc, hc⟩ := mode
  exact ⟨⟨xd, xp, xs, xr, xf, xc⟩, formatOf_iff.2 ⟨hd, hp, hs, hr, hf, hc⟩⟩

theorem formatOf_none (bad : ¬FormatOk h) : formatOf h = none := by
  cases is : formatOf h with
  | none => rfl
  | some f => exact absurd (formatOk_of_formatOf is) bad

/-! ## The ring checks (R2) -/

theorem captureRingOk_iff : captureRingOk h = true ↔
    (∃ k, 10 ≤ k ∧ k ≤ 20 ∧ h.captureSize.toNat = 2 ^ k) ∧ h.captureBase.toNat % 128 = 0 := by
  unfold captureRingOk
  rw [Bool.and_eq_true, beq_iff_eq]
  refine and_congr ⟨fun member => ?_, ?_⟩ Iff.rfl
  · simp only [List.contains_eq_mem, List.mem_cons, List.not_mem_nil, or_false, decide_eq_true_eq] at member
    rcases member with is | is | is | is | is | is | is | is | is | is | is
    exacts [⟨10, by decide, by decide, is⟩, ⟨11, by decide, by decide, is⟩, ⟨12, by decide, by decide, is⟩,
      ⟨13, by decide, by decide, is⟩, ⟨14, by decide, by decide, is⟩, ⟨15, by decide, by decide, is⟩,
      ⟨16, by decide, by decide, is⟩, ⟨17, by decide, by decide, is⟩, ⟨18, by decide, by decide, is⟩,
      ⟨19, by decide, by decide, is⟩, ⟨20, by decide, by decide, is⟩]
  · rintro ⟨k, least, most, is⟩
    rw [is]
    interval_cases k <;> decide

theorem outboundRingOk_iff : outboundRingOk h = true ↔
    (∃ k, 6 ≤ k ∧ k ≤ 12 ∧ h.outboundSize.toNat = 2 ^ k) ∧ h.outboundBase.toNat % 64 = 0 := by
  unfold outboundRingOk
  rw [Bool.and_eq_true, beq_iff_eq]
  refine and_congr ⟨fun member => ?_, ?_⟩ Iff.rfl
  · simp only [List.contains_eq_mem, List.mem_cons, List.not_mem_nil, or_false, decide_eq_true_eq] at member
    rcases member with is | is | is | is | is | is | is
    exacts [⟨6, by decide, by decide, is⟩, ⟨7, by decide, by decide, is⟩, ⟨8, by decide, by decide, is⟩,
      ⟨9, by decide, by decide, is⟩, ⟨10, by decide, by decide, is⟩, ⟨11, by decide, by decide, is⟩,
      ⟨12, by decide, by decide, is⟩]
  · rintro ⟨k, least, most, is⟩
    rw [is]
    interval_cases k <;> decide

/-! ## The checks in their order (R2) -/

theorem validate_format (bad : formatOf h = none) : validate h = .error .format := by
  rw [validate, bad]

theorem validate_of_format (is : formatOf h = some f) : validate h =
    if !captureRingOk h then .error .captureRing else if !outboundRingOk h then .error .outboundRing else .ok f := by
  rw [validate, is]

theorem validate_capture (is : formatOf h = some f) (bad : ¬captureRingOk h = true) :
    validate h = .error .captureRing := by
  rw [validate_of_format is, Bool.eq_false_iff.2 bad]
  rfl

theorem validate_outbound (is : formatOf h = some f) (capture : captureRingOk h = true)
    (bad : ¬outboundRingOk h = true) : validate h = .error .outboundRing := by
  rw [validate_of_format is, capture, Bool.eq_false_iff.2 bad]
  rfl

theorem validate_ok_iff : validate h = .ok f ↔
    formatOf h = some f ∧ captureRingOk h = true ∧ outboundRingOk h = true := by
  cases is : formatOf h with
  | none =>
    rw [validate_format is]
    exact iff_of_false nofun nofun
  | some g =>
    rw [validate_of_format is]
    cases captureRingOk h
    · exact iff_of_false nofun fun all => nomatch all.2.1
    · cases outboundRingOk h
      · exact iff_of_false nofun fun all => nomatch all.2.2
      · change Except.ok g = Except.ok f ↔ _
        rw [Except.ok.injEq, Option.some.injEq]
        exact ⟨fun same => ⟨same, rfl, rfl⟩, fun all => all.1⟩

/-! ## Enable, by the line's status (R2, R3) -/

theorem applyEnable_off (off : (s.line n).status = .off) : s.applyEnable n h =
    if h.enable = 0 then s else match validate h with
      | .ok f => s.lineOn n h f
      | .error r => (s.modLine n fun l => { l with status := .configBad, refusal := r }).raise n .lineRefused := by
  unfold State.applyEnable
  rw [off] <;> rfl

theorem applyEnable_bad (bad : (s.line n).status = .configBad) : s.applyEnable n h =
    if h.enable = 0 then (s.modLine n fun l => { l with status := .off, refusal := .none }).mark n
    else match validate h with
      | .ok f => s.lineOn n h f
      | .error r => (s.modLine n fun l => { l with refusal := r }).markIf n ((s.line n).refusal != r) := by
  unfold State.applyEnable
  rw [bad] <;> rfl

theorem applyEnable_on (on : (s.line n).status = .on) : s.applyEnable n h =
    if h.enable = 0 then s.lineOff n .lineOff .endedByLineOff else s := by
  unfold State.applyEnable
  rw [on]

/-- A line that is not ON and passes the checks goes ON. -/
theorem applyEnable_goesOn (off : (s.line n).status ≠ .on) (enable : h.enable ≠ 0) (ok : validate h = .ok f) :
    s.applyEnable n h = s.lineOn n h f := by
  cases status : (s.line n).status with
  | on => exact absurd status off
  | off => rw [applyEnable_off status, if_neg enable, ok]
  | configBad => rw [applyEnable_bad status, if_neg enable, ok]

theorem applyEnable_refused (off : (s.line n).status = .off) (enable : h.enable ≠ 0) {why : LineRefusal}
    (bad : validate h = .error why) : LineBecomes n s (s.applyEnable n h)
      { s.line n with status := .configBad, refusal := why } (s.raise n .lineRefused).reports := by
  rw [applyEnable_off off, if_neg enable, bad]
  exact becomes_raise n s _ _

theorem applyEnable_again (is : (s.line n).status = .configBad) (enable : h.enable ≠ 0) {why : LineRefusal}
    (bad : validate h = .error why) : LineBecomes n s (s.applyEnable n h) { s.line n with refusal := why }
      (if why = (s.line n).refusal then s else s.mark n).reports := by
  rw [applyEnable_bad is, if_neg enable, bad]
  refine (becomes_markIf n s _ _).as rfl ?_
  by_cases same : why = (s.line n).refusal
  · rw [if_pos same, same, bne_self_eq_false]
    rfl
  · rw [if_neg same, bne_iff_ne.2 fun is => same is.symm]
    rfl

/-! ## A line as it goes ON (R4) -/

theorem load_eq (h : LineHost) (f : Format) : Settings.load h f = { Settings.reset with
    dataBits := f.dataBits, parity := f.parity, stopBits := f.stopBits, rateMode := f.rateMode
    bitPeriod := max 16 (min 131071 h.bitPeriod.toNat), fallback := max 16 (min 131071 h.fallback.toNat)
    tolerance := max 5 (min 100 h.tolerance.toNat), rawAllowed := h.rawAllowed != 0
    detectLimit := max 1000 (min 120000 h.detectLimit.toNat), flow := f.flow
    holdLimit := min 60000 h.holdLimit.toNat, charGap := min 255 h.charGap.toNat
    lineGap := min 2000 h.lineGap.toNat, absentTime := max 100 (min 10000 h.absentTime.toNat)
    captureBase := h.captureBase, captureSize := h.captureSize.toNat, captureMode := f.captureMode
    outboundBase := h.outboundBase, outboundSize := h.outboundSize.toNat } := by
  rw [Settings.load, settings_apply_eq]

theorem goOn_settings (l : Line) (h : LineHost) (f : Format) : (l.goOn h f).settings = Settings.load h f := rfl

theorem load_rateMode (h : LineHost) (f : Format) : (Settings.load h f).rateMode = f.rateMode := rfl

theorem goOn_period (l : Line) (h : LineHost) (f : Format) : (l.goOn h f).period =
    match f.rateMode with
    | .fixed => max 16 (min 131071 h.bitPeriod.toNat)
    | .detectOnEnable => max 16 (min 131071 h.fallback.toNat) := by
  rw [← clamp_eq (by decide), ← clamp_eq (by decide)]
  rfl

theorem lineOn_tx (x : Tx) : (x.isSending = false → x.lineOn = .idle) ∧
    ∀ c, x = .sending c → x.lineOn = .sending { c with source := .nobody, leftover := true } := by
  cases x with
  | sending c =>
    refine ⟨nofun, fun d is => ?_⟩
    cases is
    rfl
  | idle => exact ⟨fun _ => rfl, nofun⟩
  | gap k => exact ⟨fun _ => rfl, nofun⟩
  | held => exact ⟨fun _ => rfl, nofun⟩
  | brk b k => exact ⟨fun _ => rfl, nofun⟩

/-- The state as a line has gone ON, before a detection starts. -/
def State.wentOn (s : State) (n : LineNo) (h : LineHost) (f : Format) : State :=
  ((s.makeStale fun j => j == .capture n).modLine n fun l => l.goOn h f).mark n

theorem lineOn_eq (s : State) (n : LineNo) (h : LineHost) (f : Format) : s.lineOn n h f =
    if f.rateMode = .detectOnEnable then (s.wentOn n h f).startDetection n false else s.wentOn n h f := rfl

theorem line_wentOn (s : State) (n : LineNo) (h : LineHost) (f : Format) :
    (s.wentOn n h f).line n = (s.line n).goOn h f := by
  rw [State.wentOn, line_mark, line_modLine_self, line_makeStale]

theorem wentOn_beside (s : State) (n : LineNo) (h : LineHost) (f : Format) :
    OnlyLine n s (s.wentOn n h f) ∧ (s.wentOn n h f).common = s.common ∧
    (s.wentOn n h f).reports = (s.mark n).reports ∧ (s.wentOn n h f).store = s.store ∧
    (s.wentOn n h f).queue = s.queue ∧ (s.wentOn n h f).slots = s.slots ∧
    (s.wentOn n h f).port = (s.makeStale fun j => j == .capture n).port :=
  ⟨fun m apart => by
      rw [State.wentOn, line_mark, line_modLine_ne _ _ apart, line_makeStale], rfl, rfl, rfl, rfl, rfl, rfl⟩

/-- What a stale mark for one job makes of the transaction in flight. -/
theorem makeStale_flight (s : State) (j : Job) :
    (s.makeStale fun i => i == j).port = { s.port with inFlight := (s.makeStale fun i => i == j).port.inFlight } ∧
    (s.port.inFlight = none → (s.makeStale fun i => i == j).port.inFlight = none) ∧
    ∀ t, s.port.inFlight = some t →
      (s.makeStale fun i => i == j).port.inFlight = some (if t.job = j then { t with stale := true } else t) := by
  refine ⟨rfl, fun none => ?_, fun t some => ?_⟩
  · change s.port.inFlight.map _ = _
    rw [none]
    rfl
  · change s.port.inFlight.map _ = _
    rw [some, Option.map_some]
    exact congrArg Option.some (if_congr beq_iff_eq rfl rfl)

theorem port_startDetection (s : State) (n : LineNo) (b : Bool) : (s.startDetection n b).port = s.port :=
  (port_grantSlots (s.detecting n b)).trans rfl

/-- A line goes ON with Rate Mode DETECT_ON_ENABLE. -/
theorem enabled_detects (off : (s.line n).status ≠ .on) (enable : h.enable ≠ 0) (ok : validate h = .ok f)
    (mode : f.rateMode = .detectOnEnable) :
    let u := s.applyEnable n h
    let k := u.line n
    k.status = .on ∧ k.settings.rateMode = .detectOnEnable ∧ k.period = max 16 (min 131071 h.fallback.toNat) ∧
      k.det.attempts = 0 ∧ k.det.rejected = 0 ∧ k.det.counted = 0 ∧ k.det.least = none ∧ k.det.adoption = .none ∧
      k.det.verified = 0 ∧ k.det.bound = false ∧ k.det.measured = (s.line n).det.measured ∧
      k.det.limit = timerStart (max 1000 (min 120000 h.detectLimit.toNat)) ∧ u.reports.dirty.get n = true ∧
      u.reports.held = s.reports.held ∧ u.common = s.common ∧ k.clamped = anyClamped h ∧
      (∀ t, s.port.inFlight = some t →
        u.port.inFlight = some (if t.job = .capture n then { t with stale := true } else t)) ∧
      (s.slots.length < 4 → s.queue = [] → u.slots = s.slots ++ [n] ∧ u.queue = [] ∧ k.det.state = .measuring) ∧
      (4 ≤ s.slots.length → u.slots = s.slots ∧ u.queue = s.queue ++ [n] ∧ k.det.state = .queued) := by
  intro u k
  have is : u = (s.wentOn n h f).startDetection n false :=
    (applyEnable_goesOn off enable ok).trans ((lineOn_eq s n h f).trans (if_pos mode))
  obtain ⟨-, common, reports, -, queue, slots, port⟩ := wentOn_beside s n h f
  have line : k = { (s.line n).goOn h f with det :=
      { ((s.line n).goOn h f).det.started false ((s.line n).goOn h f).settings.detectLimit with
        state := if n ∈ ((s.wentOn n h f).detecting n false).granted then .measuring else .queued } } := by
    rw [← line_wentOn s n h f]
    exact (congrArg (fun v : State => v.line n) is).trans (line_startDetection_state (s.wentOn n h f) n false)
  obtain ⟨free, full⟩ := startDetection_finder (s.wentOn n h f) n false
  obtain ⟨dirty, held⟩ := startDetection_dirty (s.wentOn n h f) n false
  rw [← is] at free full dirty held
  have period : k.period = max 16 (min 131071 h.fallback.toNat) := by
    rw [line]
    exact (goOn_period (s.line n) h f).trans (by rw [mode])
  have limit : k.det.limit = timerStart (max 1000 (min 120000 h.detectLimit.toNat)) := by
    rw [line, ← clamp_eq (by decide)]
    rfl
  have rate : k.settings.rateMode = .detectOnEnable := by
    rw [line]
    exact mode
  refine ⟨by rw [line]; rfl, rate, period, ?_, ?_, ?_, ?_, ?_, ?_, ?_, ?_, limit, dirty, ?_, ?_, ?_, fun t flying => ?_,
    fun few none => ?_, fun many => ?_⟩
  iterate 8 · rw [line]; rfl
  · rw [held, reports]
    rfl
  · rw [is]
    exact (common_startDetection ..).trans common
  · rw [line]; rfl
  · rw [is, port_startDetection, port]
    exact (makeStale_flight s (.capture n)).2.2 t flying
  · obtain ⟨a, b, c⟩ := free (by rw [slots]; exact few) (by rw [queue]; exact none)
    rw [slots] at a
    exact ⟨a, b, c⟩
  · obtain ⟨a, b, c⟩ := full (by rw [slots]; exact many)
    rw [slots] at a
    rw [queue] at b
    exact ⟨a, b, c⟩

end

end Sys2Proof.Machine
end

section
/-! SUPPORT. A line as it goes OFF (R5, R21, R78): the line written out, and how the reports grow. -/

namespace Sys2Proof.Machine

section
variable {s t u : State} {n : LineNo} {l k : Line}

/-! ## Reports that only grow -/

/-- An event of line n adds marks and causes: no mark and no cause of the line is lost, and no other line's causes
change. -/
structure Grows (n : LineNo) (s t : State) : Prop where
  others  : ∀ m, m ≠ n → t.reports.held.get m = s.reports.held.get m
  held    : ∀ k, (s.reports.held.get n).getLsbD k = true → (t.reports.held.get n).getLsbD k = true
  dirty   : ∀ m, s.reports.dirty.get m = true → t.reports.dirty.get m = true
  header  : s.reports.headerDirty = true → t.reports.headerDirty = true
  station : t.reports.heldStation = s.reports.heldStation

theorem Grows.refl (n : LineNo) (s : State) : Grows n s s := ⟨fun _ _ => rfl, fun _ h => h, fun _ h => h, id, rfl⟩

theorem Grows.trans (a : Grows n s t) (b : Grows n t u) : Grows n s u :=
  ⟨fun m apart => (b.others m apart).trans (a.others m apart), fun k h => b.held k (a.held k h),
    fun m h => b.dirty m (a.dirty m h), fun h => b.header (a.header h), b.station.trans a.station⟩

theorem Grows.of_reports (same : t.reports = s.reports) : Grows n s t := by
  refine ⟨fun m _ => ?_, fun k h => ?_, fun m h => ?_, fun h => ?_, ?_⟩ <;> rw [same]
  · exact h
  · exact h
  · exact h

theorem grows_mark (s : State) (n m : LineNo) : Grows n s (s.mark m) :=
  ⟨fun _ _ => rfl, fun _ h => h, fun k h => by rw [dirty_mark, h, Bool.or_true], id, rfl⟩

theorem grows_markHeader (s : State) (n : LineNo) : Grows n s s.markHeader :=
  ⟨fun _ _ => rfl, fun _ h => h, fun _ h => h, fun _ => rfl, rfl⟩

theorem grows_raise (s : State) (n : LineNo) (c : LineCause) : Grows n s (s.raise n c) where
  others _ apart := vector_get_set_ne _ _ apart
  held k h := by
    rw [held_raise_self, BitVec.getLsbD_or, h]
    rfl
  dirty := (grows_mark s n n).dirty
  header := id
  station := rfl

theorem grows_markIf (s : State) (n m : LineNo) (b : Bool) : Grows n s (s.markIf m b) := by
  cases b
  · exact .refl n s
  · exact grows_mark s n m

theorem grows_raiseIf (s : State) (n : LineNo) (c : LineCause) (b : Bool) : Grows n s (s.raiseIf n c b) := by
  cases b
  · exact .refl n s
  · exact grows_raise s n c

theorem grows_modLine (s : State) (n m : LineNo) (f : Line → Line) : Grows n s (s.modLine m f) := .of_reports rfl

theorem grows_grantSlots (s : State) (n : LineNo) : Grows n s s.grantSlots where
  others m _ := by rw [held_grantSlots]
  held k h := by rw [held_grantSlots]; exact h
  dirty m h := dirty_grantSlots_of_dirty h
  header h := (header_grantSlots s).trans h
  station := station_foldl s.granted _
where
  station_foldl (xs : List LineNo) (s : State) : (xs.foldl State.grantSlot s).reports.heldStation = s.reports.heldStation := by
    induction xs generalizing s with
    | nil => rfl
    | cons x xs ih => rw [List.foldl_cons, ih]; rfl

theorem grows_endRun (s : State) (n : LineNo) (kind : OutcomeKind) (code : Byte) (exit : TrailExit) :
    Grows n s (s.endRun n kind code exit) :=
  Grows.trans (t := (s.modLine n _).modBlock _ _) (.of_reports rfl) ((grows_markHeader _ n).trans (grows_raise _ n _))

theorem grows_cancelDetection (s : State) (n m : LineNo) : Grows n s (s.cancelDetection m) := by
  by_cases none : (s.line m).det.state = .none
  · rw [cancelDetection_none none]
    exact .refl n s
  · rw [cancelDetection_eq ((inProgress_iff _).2 none)]
    have ended : Grows n s (s.modDet m fun d => d.over .cancelled s.now) := .of_reports rfl
    generalize s.modDet m (fun d => d.over .cancelled s.now) = t at *
    have left : Grows n (t.mark m) ((t.mark m).leaveFinder m) := .of_reports rfl
    exact ((ended.trans (grows_mark t n m)).trans left).trans (grows_grantSlots _ n)

theorem grows_orderDrive (s : State) (n m : LineNo) (o : OutputState) : Grows n s (s.orderDrive m o) :=
  (grows_modLine s n m _).trans (grows_markIf _ n m _)

theorem grows_cutRun (s : State) (n : LineNo) (kind : OutcomeKind) (exit : TrailExit) : Grows n s (s.cutRun n kind exit) := by
  rw [cutRun_eq]
  have ended := (grows_modLine s n n _).trans (grows_endRun (s.modRun n fun r => r.cutTrail exit s.now) n kind 0 exit)
  exact ((ended.trans (grows_modLine _ n n Line.cutStepBreaks)).trans (grows_cancelDetection _ n n)).trans
    (grows_orderDrive _ n n .rest)

theorem grows_triggerOff (s : State) (n : LineNo) : Grows n s (s.triggerOff n) :=
  (grows_modLine s n n _).trans (grows_mark _ n n)

theorem grows_keepFifo (s : State) (n : LineNo) (k : Nat) : Grows n s (s.keepFifo n k) :=
  (grows_modLine s n n _).trans ((grows_markIf _ n n _).trans (grows_raiseIf _ n _ _))

theorem grows_settleFifo (s : State) (n : LineNo) : Grows n s (s.settleFifo n) := by
  rw [settleFifo_eq]
  exact grows_keepFifo ..

theorem grows_discardFifo (s : State) (n : LineNo) : Grows n s (s.discardFifo n) := by
  unfold State.discardFifo
  split
  · exact .refl n s
  · exact grows_keepFifo ..

theorem grows_workEnded (s : State) (n : LineNo) (kind : OutcomeKind) (exit : TrailExit) :
    Grows n s ((if (s.line n).run.state = .idle then s else s.cutRun n kind exit).cancelDetection n) := by
  split
  · exact grows_cancelDetection ..
  · exact (grows_cutRun ..).trans (grows_cancelDetection ..)

/-- A line with characters to drop holds DATA_DROPPED (R63, R78). -/
theorem keepFifo_drops (s : State) (n : LineNo) {k : Nat} (drops : 0 < (s.line n).cap.fifo.length - k) :
    ((s.keepFifo n k).reports.held.get n).getLsbD 9 = true := by
  unfold State.keepFifo
  dsimp only
  rw [decide_eq_true drops]
  change ((State.raise _ n .dataDropped).reports.held.get n).getLsbD 9 = true
  rw [held_raise_self, BitVec.getLsbD_or, Bool.or_eq_true]
  exact .inr (by decide)

/-! ## The FIFO as it is settled (R78, R80) -/

/-- The characters that a capture write in flight for line n carries. -/
def State.carriedFor (s : State) (n : LineNo) : Nat :=
  match s.port.inFlight with
  | some t => if t.job = .capture n ∧ t.stale = false then t.length else 0
  | none => 0

theorem carriedChars_eq (s : State) (n : LineNo) : s.carriedChars n = s.carriedFor n := by
  unfold State.carriedChars State.carriedFor
  cases s.port.inFlight with
  | none => rfl
  | some t => exact if_congr (and_congr Iff.rfl (by rw [Bool.not_eq_true'])) rfl rfl

theorem keepCount_eq (s : State) (n : LineNo) : s.keepCount n =
    if (s.line n).settings.captureMode = .hold then
      max ((s.line n).settings.captureSize - dist (s.line n).cap.taken (s.line n).cap.head) (s.carriedFor n)
    else (s.line n).cap.fifo.length := by
  unfold State.keepCount
  rw [carriedChars_eq]
  cases (s.line n).settings.captureMode <;> rfl

theorem take_keepCount (s : State) (n : LineNo) : (s.line n).cap.fifo.take (s.keepCount n) =
    if (s.line n).settings.captureMode = .hold then (s.line n).cap.fifo.take
      (max ((s.line n).settings.captureSize - dist (s.line n).cap.taken (s.line n).cap.head) (s.carriedFor n))
    else (s.line n).cap.fifo := by
  rw [keepCount_eq]
  split
  · rfl
  · exact List.take_length

/-- Keeping k characters is keeping those that are taken. -/
theorem keep_eq (c : Capture) (k : Nat) : c.keep k = { c with
    fifo := c.fifo.take k, dropped := min 4294967295 (c.dropped + (c.fifo.length - (c.fifo.take k).length))
    draining := !(c.fifo.take k).isEmpty } := by
  have lost : c.fifo.length - (c.fifo.take k).length = c.fifo.length - k := by
    rw [List.length_take]
    omega
  rw [lost]
  rfl

/-! ## The line (R5, R21) -/

theorem cutTx_isSending (l : Line) : l.cutTx.isSending = l.tx.isSending := by
  rw [cutTx_eq]
  cases l.tx with
  | brk b k =>
    dsimp only
    split
    · cases l.keptBreaks with
      | nil =>
        dsimp only
        split
        · rfl
        · split <;> rfl
      | cons d rest => rfl
    · rfl
  | sending c => rfl
  | idle => rfl
  | gap k => rfl
  | held => rfl

theorem lineOff_quiet {x : Tx} (quiet : x.isSending = false) : x.lineOff = .idle := by
  cases x with
  | sending c => exact nomatch quiet
  | idle => rfl
  | gap k => rfl
  | held => rfl
  | brk b k => rfl

/-- The transmitter once the work on its line has ended. -/
theorem workEnded_tx (l : Line) (kind : OutcomeKind) (exit : TrailExit) (now : Word) :
    (l.workEnded kind exit now).tx = if l.run.state = .idle then l.tx else l.cutTx := by
  unfold Line.workEnded
  split
  · rfl
  · rw [undetected_tx, Line.runCut, driven_tx, undetected_tx, runStopped_eq]

/-- What the end of all work leaves of a line, beside its transmitter. -/
theorem workEnded_keeps (l : Line) (kind : OutcomeKind) (exit : TrailExit) (now : Word) :
    (l.workEnded kind exit now).period = l.period ∧ (l.workEnded kind exit now).sent = l.sent ∧
    (l.workEnded kind exit now).det = l.det.cancelled now := by
  have again : (l.det.cancelled now).cancelled now = l.det.cancelled now := if_pos (cancelled_state l.det now)
  unfold Line.workEnded
  split
  · exact ⟨rfl, rfl, rfl⟩
  · rw [Line.runCut, runStopped_eq]
    exact ⟨rfl, rfl, again⟩

theorem cancelled_outcome {d : Detection} (running : d.state ≠ .none) (now : Word) :
    (d.cancelled now).outcome = .cancelled := by
  rw [Detection.cancelled, if_neg running]
  rfl

/-! What a line's own going OFF leaves, and what the end of its work does. -/

theorem goOff_settings (l : Line) : l.goOff.settings = l.settings := rfl
theorem goOff_period (l : Line) : l.goOff.period = l.period := rfl
theorem goOff_sent (l : Line) : l.goOff.sent = l.sent := rfl
theorem goOff_tx (l : Line) : l.goOff.tx = l.tx.lineOff := rfl
theorem goOff_out (l : Line) : l.goOff.out = l.out := rfl
theorem goOff_det (l : Line) : l.goOff.det = l.det := rfl
theorem goOff_run (l : Line) : l.goOff.run = l.run := rfl
theorem goOff_cap (l : Line) : l.goOff.cap = l.cap := rfl

theorem offWork_keeps (l : Line) (kind : OutcomeKind) (exit : TrailExit) (now : Word) (k : Nat) :
    (l.offWork kind exit now k).settings = (l.workEnded kind exit now).settings ∧
    (l.offWork kind exit now k).period = (l.workEnded kind exit now).period ∧
    (l.offWork kind exit now k).sent = (l.workEnded kind exit now).sent ∧
    (l.offWork kind exit now k).tx = (l.workEnded kind exit now).tx ∧
    (l.offWork kind exit now k).run = (l.workEnded kind exit now).run ∧
    (l.offWork kind exit now k).det = (l.workEnded kind exit now).det := by
  unfold Line.offWork
  generalize l.workEnded kind exit now = x
  exact ⟨rfl, rfl, rfl, rfl, rfl, rfl⟩

theorem offWork_cap (l : Line) (kind : OutcomeKind) (exit : TrailExit) (now : Word) (k : Nat) :
    (l.offWork kind exit now k).cap =
      ((l.workEnded kind exit now).cap.triggerOff (l.workEnded kind exit now).settings.captureMode).keep k := by
  unfold Line.offWork
  generalize l.workEnded kind exit now = x
  rfl

/-- A line that has gone OFF (R5), written out. -/
theorem goneOff (s : State) (n : LineNo) (kind : OutcomeKind) (exit : TrailExit) :
    let l := s.line n
    let k := (s.lineOff n kind exit).line n
    let kept := l.cap.fifo.take (s.keepCount n)
    k.status = .off ∧ k.refusal = .none ∧ k.settings = l.settings ∧ k.period = l.period ∧ k.frame = none ∧
    k.tx = (if l.run.state = .idle then l.tx else l.cutTx).lineOff ∧ k.breaks = [] ∧ k.flowHeld = false ∧
    k.owner = .free ∧ k.staging = [] ∧ k.sent = l.sent ∧ k.out.state = .rest ∧ k.det = l.det.cancelled s.now ∧
    k.run = (if l.run.state = .idle then l.run else l.run.cut kind exit s.now) ∧
    k.cap = { l.cap with
      trigger := .off, pattern := none, lead := 0, remaining := 0
      tail := (if l.settings.captureMode = .hold then l.cap.taken else l.cap.tail), fifo := kept
      dropped := min 4294967295 (l.cap.dropped + (l.cap.fifo.length - kept.length)), draining := !kept.isEmpty } := by
  intro l k kept
  obtain ⟨settings, cap⟩ := workEnded_fields l kind exit s.now
  obtain ⟨period, sent, det⟩ := workEnded_keeps l kind exit s.now
  have tx := workEnded_tx l kind exit s.now
  have run := workEnded_run l kind exit s.now
  rw [cut_eq] at run
  have line : k = (l.offWork kind exit s.now (s.keepCount n)).goOff := line_lineOff s n kind exit
  obtain ⟨oSettings, oPeriod, oSent, oTx, oRun, oDet⟩ := offWork_keeps l kind exit s.now (s.keepCount n)
  rw [line, goOff_settings, goOff_period, goOff_sent, goOff_tx, goOff_out, goOff_det, goOff_run, goOff_cap, oSettings,
    oPeriod, oSent, oTx, oRun, oDet, offWork_cap, keep_eq, settings, cap, triggerOff_eq]
  exact ⟨rfl, rfl, rfl, period, rfl, congrArg Tx.lineOff tx, rfl, rfl, rfl, rfl, sent,
    (offWork_idle l kind exit s.now (s.keepCount n)).2.1, det, run, rfl⟩

theorem grows_afterSettle (s : State) (n : LineNo) (o : OutputState) : Grows n s
    (((((s.orderDrive n o).makeStale fun j => j == .fetch n).modLine n Line.goOff).mark n)) :=
  (grows_orderDrive s n n o).trans ((Grows.of_reports (s := s.orderDrive n o)
    (t := ((s.orderDrive n o).makeStale fun j => j == .fetch n).modLine n Line.goOff) rfl).trans (grows_mark _ n n))

theorem grows_lineOff (s : State) (n : LineNo) (kind : OutcomeKind) (exit : TrailExit) :
    Grows n s (s.lineOff n kind exit) :=
  (grows_workEnded s n kind exit).trans ((grows_triggerOff _ n).trans ((grows_settleFifo _ n).trans
    (grows_afterSettle _ n .rest)))

/-- What a line's going OFF says in the reports (R63, R124). -/
theorem lineOff_says (s : State) (n : LineNo) (kind : OutcomeKind) (exit : TrailExit) :
    let u := s.lineOff n kind exit
    (0 < (s.line n).cap.fifo.length - ((s.line n).cap.fifo.take (s.keepCount n)).length →
      (u.reports.held.get n).getLsbD 9 = true) ∧
    ((s.line n).run.state ≠ .idle → (u.reports.held.get n).getLsbD 0 = true) ∧ u.reports.dirty.get n = true := by
  intro u
  have work := line_workEnded s n kind exit
  obtain ⟨settings, cap⟩ := workEnded_fields (s.line n) kind exit s.now
  have port : ((if (s.line n).run.state = .idle then s else s.cutRun n kind exit).cancelDetection n).port = s.port := by
    rw [port_cancelDetection]
    split
    · rfl
    · exact port_cutRun ..
  refine ⟨fun drops => ?_, fun busy => ?_, dirty_mark_self _ n⟩
  · have grown := grows_afterSettle ((((if (s.line n).run.state = .idle then s else s.cutRun n kind exit).cancelDetection
      n).triggerOff n).settleFifo n) n .rest
    refine grown.held 9 ?_
    generalize (if (s.line n).run.state = .idle then s else s.cutRun n kind exit).cancelDetection n = w at *
    have off : (w.triggerOff n).line n = ((s.line n).workEnded kind exit s.now).disarmed := by
      rw [line_triggerOff, work]
    have fifo : ((w.triggerOff n).line n).cap.fifo = (s.line n).cap.fifo := by
      rw [off, disarmed_cap, (triggerOff_fields ..).1, cap]
    have count : (w.triggerOff n).keepCount n = s.keepCount n := by
      refine keepCount_congr ?_ fifo ?_ port
      · rw [off, disarmed_settings, settings]
      · rw [off, disarmed_cap, (triggerOff_fields ..).2, cap]
    rw [settleFifo_eq, count]
    refine keepFifo_drops _ n ?_
    rw [fifo]
    rw [List.length_take] at drops
    omega
  · have cut : ((s.cutRun n kind exit).reports.held.get n).getLsbD 0 = true := by
      obtain ⟨-, -, -, -, -, -, held⟩ := cutRun_beside s n kind exit
      rw [held, BitVec.getLsbD_or, Bool.or_eq_true]
      exact .inr (by decide)
    have grown := (grows_cancelDetection (s.cutRun n kind exit) n n).trans ((grows_triggerOff _ n).trans
      ((grows_settleFifo _ n).trans (grows_afterSettle _ n .rest)))
    have is : u = (((((((s.cutRun n kind exit).cancelDetection n).triggerOff n).settleFifo n).orderDrive n .rest).makeStale
        fun j => j == .fetch n).modLine n Line.goOff).mark n := by
      change State.lineOff s n kind exit = _
      unfold State.lineOff
      rw [if_neg busy]
    rw [is]
    exact grown.held 0 cut

end

end Sys2Proof.Machine
end

section
/-! SUPPORT. What surrounds a line that goes OFF (R5, R78): the port and the Rate Finder. O40: the enable. -/

namespace Sys2Proof.Machine

section
variable {s t u : State} {n : LineNo} {l k : Line} {h : LineHost} {f : Format}

/-! ## A line that goes OFF, and what is beside it (R5) -/

theorem lineOff_sending {x : Tx} {c : TxChar} (sending : x = .sending c) : x.lineOff = .sending c := by
  rw [sending]
  rfl

/-- A run that is cut leaves a character in progress to nobody. -/
theorem cutTx_sending {b : TxChar} (sending : l.tx = .sending b) :
    l.cutTx = .sending (if b.source = .script then { b with source := .nobody } else b) := by
  rw [cutTx_eq, sending]
  dsimp only
  split <;> rfl

/-- The run of a line that has gone OFF. -/
theorem goneOff_run (s : State) (n : LineNo) (kind : OutcomeKind) (exit : TrailExit) :
    let r := (s.line n).run
    let k := (s.lineOff n kind exit).line n
    k.run.state = .idle ∧ (r.state = .idle → k.run = r) ∧ (r.state ≠ .idle → k.run.last =
      some ⟨kind, 0, if r.state = .queued then r.entry else r.current, exit, s.clock.ms⟩) := by
  intro r k
  obtain ⟨-, -, -, -, -, -, -, -, -, -, -, -, -, run, -⟩ := goneOff s n kind exit
  rw [show k.run = _ from run]
  by_cases idle : (s.line n).run.state = .idle
  · rw [if_pos idle]
    exact ⟨idle, fun _ => rfl, fun busy => absurd idle busy⟩
  · rw [if_neg idle]
    exact ⟨rfl, fun is => absurd is idle, fun _ => rfl⟩

/-- The transmitter of a line that has gone OFF: a character runs on, anything else has ended. -/
theorem goneOff_tx (s : State) (n : LineNo) (kind : OutcomeKind) (exit : TrailExit) :
    let l := s.line n
    let k := (s.lineOff n kind exit).line n
    (l.tx.isSending = false → k.tx = .idle) ∧
    (∀ b, l.tx = .sending b → k.tx = .sending (if b.source = .script ∧ l.run.state ≠ .idle then { b with source := .nobody }
      else b)) := by
  intro l k
  obtain ⟨-, -, -, -, -, tx, -⟩ := goneOff s n kind exit
  rw [show k.tx = _ from tx]
  refine ⟨fun quiet => lineOff_quiet ?_, fun b sending => lineOff_sending ?_⟩
  · split
    · exact quiet
    · exact (cutTx_isSending l).trans quiet
  · by_cases idle : (s.line n).run.state = .idle
    · rw [if_pos idle, if_neg fun both => both.2 idle]
      exact sending
    · rw [if_neg idle, cutTx_sending sending]
      exact congrArg Tx.sending (if_congr (by rw [and_iff_left idle]) rfl rfl)

theorem finder_keepFifo (s : State) (n : LineNo) (k : Nat) :
    (s.keepFifo n k).queue = s.queue ∧ (s.keepFifo n k).slots = s.slots :=
  ⟨(raiseIf_queue ..).trans (markIf_queue ..), (raiseIf_slots ..).trans (markIf_slots ..)⟩

theorem finder_orderDrive (s : State) (n : LineNo) (o : OutputState) :
    (s.orderDrive n o).queue = s.queue ∧ (s.orderDrive n o).slots = s.slots :=
  ⟨markIf_queue .., markIf_slots ..⟩

/-- Once the work of a line has ended, nothing more of the Rate Finder changes as it goes OFF. -/
theorem finder_wentOff (s : State) (n : LineNo) (p : Job → Bool) (g : Line → Line) :
    (((s.makeStale p).modLine n g).mark n).queue = s.queue ∧ (((s.makeStale p).modLine n g).mark n).slots = s.slots :=
  ⟨rfl, rfl⟩

theorem finder_settled (s : State) (n : LineNo) (o : OutputState) :
    (((s.triggerOff n).settleFifo n).orderDrive n o).queue = s.queue ∧
    (((s.triggerOff n).settleFifo n).orderDrive n o).slots = s.slots := by
  rw [settleFifo_eq, (finder_orderDrive ..).1, (finder_orderDrive ..).2, (finder_keepFifo ..).1, (finder_keepFifo ..).2]
  exact ⟨rfl, rfl⟩

/-- After the work of a line has ended, the Rate Finder is left as the end of the detection leaves it. -/
theorem finder_lineOff (s : State) (n : LineNo) (kind : OutcomeKind) (exit : TrailExit) :
    (s.lineOff n kind exit).queue =
      ((if (s.line n).run.state = .idle then s else s.cutRun n kind exit).cancelDetection n).queue ∧
    (s.lineOff n kind exit).slots =
      ((if (s.line n).run.state = .idle then s else s.cutRun n kind exit).cancelDetection n).slots := by
  rw [lineOff_eq, (finder_wentOff ..).1, (finder_wentOff ..).2, State.offWork]
  exact finder_settled ..

/-- A line that goes OFF with a detection leaves the Rate Finder. -/
theorem lineOff_leavesFinder (kind : OutcomeKind) (exit : TrailExit) (running : (s.line n).det.state ≠ .none) :
    n ∉ (s.lineOff n kind exit).queue ∧ n ∉ (s.lineOff n kind exit).slots := by
  obtain ⟨queue, slots⟩ := finder_lineOff s n kind exit
  rw [queue, slots]
  split
  · exact cancelDetection_gone running
  next busy =>
    obtain ⟨-, -, gone, -⟩ := cutRun_beside s n kind exit
    have none : ((s.cutRun n kind exit).line n).det.state = .none := by
      rw [line_cutRun, Line.runCut, driven_det, undetected_det]
      exact cancelled_state ..
    rw [cancelDetection_none none]
    exact gone running

theorem makeStale_port_congr (same : t.port = s.port) (p : Job → Bool) : (t.makeStale p).port = (s.makeStale p).port := by
  unfold State.makeStale
  dsimp only
  rw [same]

theorem port_wentOff (s : State) (n : LineNo) (p : Job → Bool) (g : Line → Line) :
    (((s.makeStale p).modLine n g).mark n).port = (s.makeStale p).port := rfl

/-- Of the port, a line that goes OFF changes only its own fetch in flight (R151). -/
theorem port_lineOff (s : State) (n : LineNo) (kind : OutcomeKind) (exit : TrailExit) :
    (s.lineOff n kind exit).port = (s.makeStale fun j => j == .fetch n).port := by
  have work : (s.offWork n kind exit).port = s.port := by
    unfold State.offWork
    rw [port_orderDrive, settleFifo_eq, port_keepFifo, port_triggerOff, port_cancelDetection]
    split
    · rfl
    · exact port_cutRun ..
  rw [lineOff_eq, port_wentOff]
  exact makeStale_port_congr work _

/-- A line that goes OFF changes of the other lines only what a slot granted makes of a detection. -/
theorem lineOff_others (s : State) (n : LineNo) (kind : OutcomeKind) (exit : TrailExit) {m : LineNo} (apart : m ≠ n) :
    ((s.lineOff n kind exit).line m).SameButDetection (s.line m) :=
  sameButDetection_of_others (others_lineOff ..) apart

/-! ## A line that goes ON (R4) -/

/-- A line that goes ON with Rate Mode FIXED. -/
theorem enabled_fixed (off : (s.line n).status ≠ .on) (enable : h.enable ≠ 0) (ok : validate h = .ok f)
    (mode : f.rateMode = .fixed) : s.applyEnable n h = s.wentOn n h f := by
  rw [applyEnable_goesOn off enable ok, lineOn_eq, if_neg]
  rw [mode]
  decide

/-- However it goes ON, a line that passes the checks is ON. -/
theorem enabled_on (off : (s.line n).status ≠ .on) (enable : h.enable ≠ 0) (ok : validate h = .ok f) :
    ((s.applyEnable n h).line n).status = .on := by
  cases mode : f.rateMode with
  | fixed =>
    rw [enabled_fixed off enable ok mode, line_wentOn]
    rfl
  | detectOnEnable => exact (enabled_detects off enable ok mode).1

/-- What a line that goes ON loads (R4, R11, R14). -/
theorem goOn_fixed (l : Line) (h : LineHost) {f : Format} (mode : f.rateMode = .fixed) :
    let k := l.goOn h f
    k.period = max 16 (min 131071 h.bitPeriod.toNat) ∧ k.settings.bitPeriod = max 16 (min 131071 h.bitPeriod.toNat) ∧
    k.settings.fallback = max 16 (min 131071 h.fallback.toNat) ∧
    k.settings.tolerance = max 5 (min 100 h.tolerance.toNat) ∧
    k.settings.detectLimit = max 1000 (min 120000 h.detectLimit.toNat) ∧
    k.settings.holdLimit = min 60000 h.holdLimit.toNat ∧ k.settings.charGap = min 255 h.charGap.toNat ∧
    k.settings.lineGap = min 2000 h.lineGap.toNat ∧ k.settings.absentTime = max 100 (min 10000 h.absentTime.toNat) ∧
    k.settings.captureBase = h.captureBase ∧ k.settings.captureSize = h.captureSize.toNat ∧
    k.settings.outboundBase = h.outboundBase ∧ k.settings.outboundSize = h.outboundSize.toNat ∧
    k.settings.flow = f.flow ∧ k.settings.dataBits = f.dataBits ∧ k.settings.parity = f.parity ∧
    k.settings.stopBits = f.stopBits ∧ k.settings.captureMode = f.captureMode ∧
    k.settings.rateMode = .fixed ∧ k.settings.rawAllowed = (h.rawAllowed != 0) := by
  intro k
  have settings : k.settings = Settings.load h f := rfl
  refine ⟨(goOn_period l h f).trans (by rw [mode]), ?_⟩
  rw [settings, load_eq]
  exact ⟨rfl, rfl, rfl, rfl, rfl, rfl, rfl, rfl, rfl, rfl, rfl, rfl, rfl, rfl, rfl, rfl, rfl, mode, rfl⟩

end

/-- Settles O40: the checks in their order, then each edge of Enable by the line's status. -/
theorem lineEnabled : Obligations.LineEnabled := by
  refine ⟨fun n h s off enable => ?_, fun n h s => ⟨fun bad enable => ?_, fun r bad enable refused => ?_,
    fun f bad enable ok => ?_, ?_⟩, fun n h f s off enable ok mode => ?_, fun n h f s off enable ok mode => ?_,
    fun n h s on enable => ?_⟩
  · intro l refused formatOk captureOk outboundOk
    have ring : captureOk ↔ captureRingOk h = true := captureRingOk_iff.symm
    have ring' : outboundOk ↔ outboundRingOk h = true := outboundRingOk_iff.symm
    rw [ring, ring']
    refine ⟨fun bad => applyEnable_refused off enable (validate_format (formatOf_none bad)), fun ok bad => ?_,
      fun ok capture bad => ?_, fun ok capture outbound => ?_⟩ <;> obtain ⟨f, is⟩ := formatOf_of_formatOk ok
    · exact applyEnable_refused off enable (validate_capture is bad)
    · exact applyEnable_refused off enable (validate_outbound is capture bad)
    · exact enabled_on (by rw [off]; decide) enable (validate_ok_iff.2 ⟨is, capture, outbound⟩)
  · rw [applyEnable_bad bad, if_pos enable]
    exact becomes_mark n s _
  · exact applyEnable_again bad enable refused
  · exact enabled_on (by rw [bad]; decide) enable ok
  · rintro (⟨off, enable⟩ | ⟨on, enable⟩)
    · rw [applyEnable_off off, if_pos enable]
    · rw [applyEnable_on on, if_neg enable]
  · intro l u k
    have is : u = s.wentOn n h f := enabled_fixed off enable ok mode
    have line : k = l.goOn h f := (congrArg (fun v : State => v.line n) is).trans (line_wentOn s n h f)
    obtain ⟨only, common, reports, store, queue, slots, port⟩ := wentOn_beside s n h f
    obtain ⟨same, none, some⟩ := makeStale_flight s (.capture n)
    rw [← port] at same none some
    rw [← is] at only common reports store queue slots same none some
    obtain ⟨period, bits, fallback, tolerance, limit, hold, charGap, lineGap, absent, base, size, outBase, outSize, flow,
      data, parity, stop, capture, rate, raw⟩ := goOn_fixed l h mode
    rw [line]
    exact ⟨only, common, reports, rfl, rfl, period, bits, fallback, tolerance, limit, hold, charGap, lineGap, absent,
      base, size, outBase, outSize, flow, data, parity, stop, capture, rate, raw, rfl, rfl, rfl, rfl, rfl, rfl, rfl, rfl,
      rfl, rfl, rfl, rfl, rfl, rfl, rfl, rfl, rfl, rfl, rfl, rfl, rfl, rfl, rfl, rfl, rfl, rfl, rfl, (lineOn_tx l.tx).1,
      (lineOn_tx l.tx).2, rfl, rfl, rfl, rfl, rfl, store, queue, slots, same, none, some⟩
  · exact enabled_detects off enable ok mode
  · intro l r u k c carried kept lost
    have is : u = s.lineOff n .lineOff .endedByLineOff := (applyEnable_on on).trans (if_pos enable)
    have keeps : kept = l.cap.fifo.take (s.keepCount n) := by
      rw [take_keepCount]
      change (match l.settings.captureMode with
        | .roll => c.fifo
        | .hold => c.fifo.take (max (l.settings.captureSize - dist c.taken c.head) carried)) = _
      have same : carried = s.carriedFor n := rfl
      rw [same]
      change (match (s.line n).settings.captureMode with | .roll => _ | .hold => _) = _
      cases (s.line n).settings.captureMode <;> rfl
    have gone := goneOff s n .lineOff .endedByLineOff
    have run := goneOff_run s n .lineOff .endedByLineOff
    have tx := goneOff_tx s n .lineOff .endedByLineOff
    have told := lineOff_says s n .lineOff .endedByLineOff
    have port := port_lineOff s n .lineOff .endedByLineOff
    have common : u.common = s.common := (congrArg State.common is).trans (common_lineOff ..)
    obtain ⟨same, none, some⟩ := makeStale_flight s (.fetch n)
    rw [← port, ← is] at same none some
    rw [← is] at gone run tx told
    have finder : l.det.state ≠ .none → n ∉ u.queue ∧ n ∉ u.slots := fun running => by
      rw [is]
      exact lineOff_leavesFinder _ _ running
    have others : ∀ m : LineNo, m ≠ n → (u.line m).SameButDetection (s.line m) := fun m apart => by
      rw [is]
      exact lineOff_others s n _ _ apart
    obtain ⟨status, refusal, settings, period, frame, -, breaks, held, owner, staging, sent, out, det, -, cap⟩ := gone
    rw [← keeps] at cap told
    exact ⟨status, refusal, settings, period, frame, tx.1, tx.2, breaks, held, owner, staging, sent, out,
      (congrArg Detection.state det).trans (cancelled_state ..),
      fun running => (congrArg Detection.outcome det).trans (cancelled_outcome running _), run.1, run.2.1, run.2.2, cap,
      told.1, told.2.2, common, finder, same, none, some, others⟩

end Sys2Proof.Machine
end

section
/-! SUPPORT. The stop sequence (R80, R191), one line after the other: what one line's turn makes of the line, and what
it leaves of the others. -/

namespace Sys2Proof.Machine

section
variable {s t u r : State} {n m : LineNo} {l k : Line}

/-! ## Going through the lines, each once -/

/-- What every turn keeps of a line still to come, a line's own turn makes into what it establishes. -/
theorem forLines_turns {f : LineNo → State → State} {P : State → Prop} {R Q : LineNo → State → Prop} (init : P s)
    (ready : ∀ n, R n s) (turn : ∀ n t, P t → R n t → P (f n t) ∧ Q n (f n t))
    (waits : ∀ n m t, n ≠ m → P t → R n t → R n (f m t)) (stays : ∀ n m t, n ≠ m → P t → Q n t → Q n (f m t)) :
    P (s.forLines f) ∧ ∀ n, Q n (s.forLines f) := by
  have go : ∀ (xs : List LineNo) (t : State), xs.Nodup → P t → (∀ n ∈ xs, R n t) →
      P (xs.foldl (fun u n => f n u) t) ∧ ∀ n, n ∈ xs ∨ Q n t → Q n (xs.foldl (fun u n => f n u) t) := by
    intro xs
    induction xs with
    | nil => exact fun t _ h _ => ⟨h, fun n q => q.resolve_left List.not_mem_nil⟩
    | cons x xs ih =>
      intro t once h wait
      obtain ⟨new, rest⟩ := List.nodup_cons.1 once
      obtain ⟨next, here⟩ := turn x t h (wait x List.mem_cons_self)
      have waiting : ∀ n ∈ xs, R n (f x t) := fun n member =>
        waits n x t (fun same => new (same ▸ member)) h (wait n (List.mem_cons_of_mem x member))
      obtain ⟨all, each⟩ := ih (f x t) rest next waiting
      refine ⟨all, fun n q => each n ?_⟩
      by_cases same : n = x
      · exact .inr (same ▸ here)
      · exact q.imp (fun member => (List.mem_cons.1 member).resolve_left same) (stays n x t same h)
  obtain ⟨all, each⟩ := go (List.finRange 32) s (List.nodup_finRange 32) init fun n _ => ready n
  exact ⟨all, fun n => each n (.inl (List.mem_finRange n))⟩

/-! ## The other lines' detections -/

/-- An event of line n changes another line's detection record only where that line was queued and is granted a slot;
none joins the queue. -/
structure Beside (n : LineNo) (s t : State) : Prop where
  det   : ∀ m, m ≠ n → (t.line m).det = (s.line m).det ∨ (m ∈ s.queue ∧ (t.line m).det = (s.line m).det.measure)
  queue : ∀ m, m ≠ n → m ∈ t.queue → m ∈ s.queue

theorem Beside.of_only (only : OnlyLine n s t) (queue : t.queue = s.queue) : Beside n s t :=
  ⟨fun m apart => .inl (by rw [only m apart]), fun m _ member => queue ▸ member⟩

theorem Beside.refl (n : LineNo) (s : State) : Beside n s s := .of_only (fun _ _ => rfl) rfl

theorem Beside.trans (a : Beside n s t) (b : Beside n t u) : Beside n s u where
  queue m apart member := a.queue m apart (b.queue m apart member)
  det m apart := by
    rcases b.det m apart with same | ⟨member, grant⟩
    · rw [same]
      exact a.det m apart
    · refine .inr ⟨a.queue m apart member, ?_⟩
      rcases a.det m apart with same | ⟨-, grant'⟩
      · rw [grant, same]
      · rw [grant, grant']
        rfl

theorem beside_grantSlots (s : State) (n : LineNo) : Beside n s s.grantSlots where
  queue m _ member := by
    rw [queue_grantSlots] at member
    exact List.mem_of_mem_drop member
  det m _ := by
    rw [line_grantSlots]
    split
    next granted => exact .inr ⟨List.mem_of_mem_take granted, rfl⟩
    · exact .inl rfl

theorem beside_leaveFinder (s : State) (n m : LineNo) : Beside n s (s.leaveFinder m) :=
  ⟨fun _ _ => .inl rfl, fun _ _ member => List.mem_of_mem_filter member⟩

theorem beside_mark (s : State) (n m : LineNo) : Beside n s (s.mark m) := .of_only (fun _ _ => rfl) rfl

theorem beside_modLine (s : State) (n : LineNo) (f : Line → Line) : Beside n s (s.modLine n f) :=
  .of_only (fun _ apart => line_modLine_ne s f apart) rfl

theorem beside_cancelDetection (s : State) (n : LineNo) : Beside n s (s.cancelDetection n) := by
  by_cases none : (s.line n).det.state = .none
  · rw [cancelDetection_none none]
    exact .refl n s
  · rw [cancelDetection_eq ((inProgress_iff _).2 none)]
    exact ((beside_modLine s n _).trans (beside_mark _ n n)).trans
      ((beside_leaveFinder _ n n).trans (beside_grantSlots _ n))

theorem beside_orderDrive (s : State) (n : LineNo) (o : OutputState) : Beside n s (s.orderDrive n o) :=
  .of_only (fun _ apart => (becomes_orderDrive s n o).others _ apart) (finder_orderDrive s n o).1

theorem beside_keepFifo (s : State) (n : LineNo) (k : Nat) : Beside n s (s.keepFifo n k) := by
  refine .of_only (fun m apart => ?_) (finder_keepFifo s n k).1
  rw [State.keepFifo, line_raiseIf, line_markIf, State.modCap, line_modLine_ne _ _ apart]

theorem beside_settleFifo (s : State) (n : LineNo) : Beside n s (s.settleFifo n) := by
  rw [settleFifo_eq]
  exact beside_keepFifo ..

theorem beside_discardFifo (s : State) (n : LineNo) : Beside n s (s.discardFifo n) := by
  unfold State.discardFifo
  split
  · exact .refl n s
  · exact beside_keepFifo ..

theorem beside_cutRun (s : State) (n : LineNo) (kind : OutcomeKind) (exit : TrailExit) :
    Beside n s (s.cutRun n kind exit) := by
  have stopped : Beside n s (s.runStopped n kind exit) := by
    obtain ⟨-, -, queue, -⟩ := runStopped_beside s n kind exit
    refine .of_only (fun m apart => ?_) queue
    rw [State.runStopped, line_modLine_ne _ _ apart, endRun_only _ n kind 0 exit m apart]
    exact line_modLine_ne s _ apart
  rw [cutRun_eq]
  exact (stopped.trans (beside_cancelDetection _ n)).trans (beside_orderDrive _ n .rest)

theorem beside_wentOff (s : State) (n : LineNo) (p : Job → Bool) (g : Line → Line) :
    Beside n s (((s.makeStale p).modLine n g).mark n) :=
  .of_only (fun _ apart => by rw [line_mark, line_modLine_ne _ _ apart, line_makeStale]) rfl

theorem beside_lineOff (s : State) (n : LineNo) (kind : OutcomeKind) (exit : TrailExit) :
    Beside n s (s.lineOff n kind exit) := by
  have cut : Beside n s (if (s.line n).run.state = .idle then s else s.cutRun n kind exit) := by
    split
    · exact .refl n s
    · exact beside_cutRun ..
  have work : Beside n s (s.offWork n kind exit) :=
    (cut.trans (beside_cancelDetection _ n)).trans (((beside_modLine _ n _).trans (beside_mark _ n n)).trans
      ((beside_settleFifo _ n).trans (beside_orderDrive _ n .rest)))
  rw [lineOff_eq]
  exact work.trans (beside_wentOff ..)

/-! ## One line's turn -/

/-- A line that is not ON, its FIFO settled again if it drains in HOLD (R80). -/
def State.resettled (s : State) (n : LineNo) : State :=
  if ((s.line n).cap.draining && (s.line n).settings.captureMode == .hold) = true then s.settleFifo n else s

theorem lineStopped_on (on : (s.line n).status = .on) : s.lineStopped n = s.lineOff n .stopped .endedByStop := by
  unfold State.lineStopped
  rw [on]

theorem lineStopped_bad (bad : (s.line n).status = .configBad) : s.lineStopped n =
    ((s.resettled n).modLine n fun l => { l with status := .off, refusal := .none }).mark n := by
  unfold State.lineStopped
  rw [bad]
  rfl

theorem lineStopped_off (off : (s.line n).status = .off) : s.lineStopped n = s.resettled n := by
  unfold State.lineStopped
  rw [off]
  rfl

/-- What holds after the going OFF, the resettling and the mark, as the case may be, holds after a line's turn. -/
theorem stopLine_via {C : State → State → Prop} (refl : ∀ t, C t t) (trans : ∀ a b c, C a b → C b c → C a c)
    (off : ∀ t, C t (t.lineOff n .stopped .endedByStop)) (keep : ∀ t k, C t (t.keepFifo n k))
    (modLine : ∀ t f, C t (t.modLine n f)) (mark : ∀ t, C t (t.mark n)) (s : State) : C s (s.stopLine n) := by
  have settled : C s (s.resettled n) := by
    unfold State.resettled
    split
    · rw [settleFifo_eq]
      exact keep ..
    · exact refl s
  have stopped : C s (s.lineStopped n) := by
    cases status : (s.line n).status with
    | on => rw [lineStopped_on status]; exact off s
    | configBad => rw [lineStopped_bad status]; exact trans _ _ _ settled (trans _ _ _ (modLine ..) (mark _))
    | off => rw [lineStopped_off status]; exact settled
  rw [stopLine_eq]
  split
  · unfold State.discardFifo
    split
    · exact stopped
    · exact trans _ _ _ stopped (keep ..)
  · exact stopped

theorem beside_stopLine (s : State) (n : LineNo) : Beside n s (s.stopLine n) :=
  stopLine_via (.refl n) (fun _ _ _ a b => a.trans b) (fun t => beside_lineOff t n _ _) (fun t => beside_keepFifo t n)
    (fun t => beside_modLine t n) (fun t => beside_mark t n n) s

theorem grows_stopLine (s : State) (n : LineNo) : Grows n s (s.stopLine n) :=
  stopLine_via (.refl n) (fun _ _ _ a b => a.trans b) (fun t => grows_lineOff t n _ _) (fun t => grows_keepFifo t n)
    (fun t => grows_modLine t n n) (fun t => grows_mark t n n) s

theorem loader_runStopped (s : State) (n : LineNo) (kind : OutcomeKind) (exit : TrailExit) :
    (s.runStopped n kind exit).store.loader = s.store.loader := rfl

theorem store_wentOff (s : State) (n : LineNo) (p : Job → Bool) (g : Line → Line) :
    (((s.makeStale p).modLine n g).mark n).store = s.store := rfl

theorem loader_lineOff (s : State) (n : LineNo) (kind : OutcomeKind) (exit : TrailExit) :
    (s.lineOff n kind exit).store.loader = s.store.loader := by
  have drive : ∀ (t : State) o, (t.orderDrive n o).store = t.store := fun t o => markIf_store ..
  have keep : ∀ (t : State) k, (t.keepFifo n k).store = t.store := fun t k => (raiseIf_store ..).trans (markIf_store ..)
  have off : ∀ t : State, (t.triggerOff n).store = t.store := fun _ => rfl
  have work : (s.offWork n kind exit).store.loader = s.store.loader := by
    rw [State.offWork, drive, settleFifo_eq, keep, off, store_cancelDetection]
    split
    · rfl
    · rw [cutRun_eq, drive, store_cancelDetection, loader_runStopped]
  rw [lineOff_eq, store_wentOff]
  exact work

theorem loader_stopLine (s : State) (n : LineNo) : (s.stopLine n).store.loader = s.store.loader :=
  stopLine_via (C := fun a b => b.store.loader = a.store.loader) (fun _ => rfl) (fun _ _ _ a b => b.trans a)
    (fun t => loader_lineOff t n _ _)
    (fun _ _ => congrArg Store.loader ((raiseIf_store ..).trans (markIf_store ..))) (fun _ _ => rfl) (fun _ => rfl) s

theorem finder_lineWentOff (kind : OutcomeKind) (exit : TrailExit) (finder : s.FinderCoherent) :
    (s.lineOff n kind exit).FinderCoherent := by
  have work := (event_offWork s n kind exit).finder finder
  rw [lineOff_eq]
  generalize s.offWork n kind exit = w at work
  exact finderCoherent_congr (finder_modLine (s := w.makeStale fun j => j == .fetch n) (n := n) (f := Line.goOff) rfl
    (finder_of_lines (s := w) rfl rfl rfl work)) rfl rfl fun _ => rfl

theorem resettled_beside (s : State) (n : LineNo) :
    (s.resettled n).port = s.port ∧ (s.FinderCoherent → (s.resettled n).FinderCoherent) ∧
    (s.resettled n).line n = { s.line n with cap :=
      if (s.line n).cap.draining = true ∧ (s.line n).settings.captureMode = .hold then (s.line n).cap.keep (s.keepCount n)
      else (s.line n).cap } := by
  unfold State.resettled
  rw [settleFifo_eq]
  by_cases drains : (s.line n).cap.draining = true ∧ (s.line n).settings.captureMode = .hold
  · rw [if_pos (by rw [drains.1, drains.2]; rfl), if_pos drains]
    exact ⟨port_keepFifo .., (event_keepFifo s n _).finder, line_keepFifo ..⟩
  · rw [if_neg (by rw [Bool.and_eq_true, beq_iff_eq]; exact drains), if_neg drains]
    exact ⟨rfl, id, rfl⟩

theorem lineStopped_port (s : State) (n : LineNo) : (s.lineStopped n).port =
    if (s.line n).status = .on then (s.makeStale fun j => j == .fetch n).port else s.port := by
  cases status : (s.line n).status with
  | on => rw [lineStopped_on status, if_pos rfl]; exact port_lineOff ..
  | configBad => rw [lineStopped_bad status, if_neg nofun]; exact (resettled_beside s n).1
  | off => rw [lineStopped_off status, if_neg nofun]; exact (resettled_beside s n).1

theorem discardFifo_port (s : State) (n : LineNo) : (s.discardFifo n).port = s.port := by
  unfold State.discardFifo
  split
  · rfl
  · exact port_keepFifo ..

theorem port_stopLine (s : State) (n : LineNo) : (s.stopLine n).port =
    if (s.line n).status = .on then (s.makeStale fun j => j == .fetch n).port else s.port := by
  rw [stopLine_eq, ← lineStopped_port]
  split
  · exact discardFifo_port ..
  · rfl

theorem finder_stopLine (s : State) (n : LineNo) (finder : s.FinderCoherent) : (s.stopLine n).FinderCoherent := by
  have stopped : (s.lineStopped n).FinderCoherent := by
    have settled := (resettled_beside s n).2.1 finder
    cases status : (s.line n).status with
    | on => rw [lineStopped_on status]; exact finder_lineWentOff _ _ finder
    | configBad =>
      rw [lineStopped_bad status]
      generalize s.resettled n = w at settled
      have moved : (w.modLine n fun l => { l with status := .off, refusal := .none }).FinderCoherent :=
        finder_modLine rfl settled
      exact finderCoherent_congr moved rfl rfl fun _ => rfl
    | off => rw [lineStopped_off status]; exact settled
  rw [stopLine_eq]
  split
  · exact (event_discardFifo ..).finder stopped
  · exact stopped

end

end Sys2Proof.Machine
end

section
/-! SUPPORT. The line as its turn in the stop sequence leaves it (R80, R191). -/

namespace Sys2Proof.Machine

section
variable {s t u r : State} {n m : LineNo} {l k : Line}

/-! ## The FIFO of a stopped line (R78, R80; log 15) -/

/-- What the stop sequence admits of the line's FIFO: of a line that is ON or drains, in HOLD, what the room admits. -/
def State.admitted (s : State) (n : LineNo) : List Byte :=
  if (s.line n).settings.captureMode = .hold ∧ ((s.line n).status = .on ∨ (s.line n).cap.draining = true) then
    (s.line n).cap.fifo.take
      (max ((s.line n).settings.captureSize - dist (s.line n).cap.taken (s.line n).cap.head) (s.carriedFor n))
  else (s.line n).cap.fifo

/-- What the stop sequence keeps of it: with the fault flag set, nothing. -/
def State.keptAtStop (s : State) (n : LineNo) : List Byte := if s.port.flag then [] else s.admitted n

theorem admitted_on (on : (s.line n).status = .on) : s.admitted n = (s.line n).cap.fifo.take (s.keepCount n) := by
  rw [take_keepCount, State.admitted]
  exact if_congr (and_iff_left (.inl on)) rfl rfl

theorem admitted_off (off : (s.line n).status ≠ .on) : s.admitted n =
    if (s.line n).cap.draining = true ∧ (s.line n).settings.captureMode = .hold then
      (s.line n).cap.fifo.take (s.keepCount n) else (s.line n).cap.fifo := by
  rw [take_keepCount, State.admitted]
  by_cases drains : (s.line n).cap.draining = true ∧ (s.line n).settings.captureMode = .hold
  · rw [if_pos drains, if_pos drains.2, if_pos ⟨drains.2, .inr drains.1⟩]
  · rw [if_neg drains, if_neg fun both => drains ⟨both.2.resolve_left off, both.1⟩]

theorem length_admitted_le (s : State) (n : LineNo) : (s.admitted n).length ≤ (s.line n).cap.fifo.length := by
  unfold State.admitted
  split
  · exact List.length_take_le' ..
  · exact le_rfl

/-- A FIFO discarded whole, where it holds anything. -/
def Capture.discarded (c : Capture) : Capture := if c.fifo.isEmpty then c else c.keep 0

theorem line_discardFifo (s : State) (n : LineNo) :
    (s.discardFifo n).line n = { s.line n with cap := (s.line n).cap.discarded } := by
  unfold State.discardFifo Capture.discarded
  split
  · rfl
  · exact line_keepFifo ..

theorem discarded_fifo (c : Capture) : c.discarded.fifo = [] ∧ c.discarded.head = c.head ∧ c.discarded.taken = c.taken ∧
    (c.dropped ≤ 4294967295 → c.discarded.dropped = min 4294967295 (c.dropped + c.fifo.length)) ∧
    (0 < c.fifo.length → c.discarded.draining = false) := by
  unfold Capture.discarded
  cases fifo : c.fifo with
  | nil =>
    refine ⟨fifo, rfl, rfl, fun within => ?_, fun some => absurd some (lt_irrefl 0)⟩
    change c.dropped = min 4294967295 (c.dropped + 0)
    omega
  | cons x xs =>
    refine ⟨rfl, rfl, rfl, fun _ => ?_, fun _ => rfl⟩
    change (c.keep 0).dropped = _
    rw [keep_eq, fifo]
    rfl

theorem discardFifo_drops (some : 0 < (s.line n).cap.fifo.length) :
    ((s.discardFifo n).reports.held.get n).getLsbD 9 = true := by
  unfold State.discardFifo
  rw [if_neg (by rw [List.isEmpty_iff_length_eq_zero]; exact Nat.ne_of_gt some)]
  exact keepFifo_drops s n some

theorem grows_discarded (s : State) (n : LineNo) : Grows n s (s.discardFifo n) := grows_discardFifo s n

/-! ## A line that is OFF before memory failure discards its FIFO -/

/-- A line of the stop sequence that is not ON. -/
theorem line_lineStopped_off (off : (s.line n).status ≠ .on) : (s.lineStopped n).line n = { s.line n with
    status := .off, refusal := if (s.line n).status = .configBad then .none else (s.line n).refusal
    cap := if (s.line n).cap.draining = true ∧ (s.line n).settings.captureMode = .hold then
      (s.line n).cap.keep (s.keepCount n) else (s.line n).cap } := by
  obtain ⟨-, -, line⟩ := resettled_beside s n
  cases status : (s.line n).status with
  | on => exact absurd status off
  | configBad =>
    rw [lineStopped_bad status, line_mark, line_modLine_self, line]
    rfl
  | off =>
    rw [lineStopped_off status, line]
    rw [if_neg (show ¬LineStatus.off = .configBad from nofun), ← status]

theorem resettled_drops (lost : 0 < (s.line n).cap.fifo.length - (s.admitted n).length)
    (off : (s.line n).status ≠ .on) : ((s.lineStopped n).reports.held.get n).getLsbD 9 = true ∧
      ((s.lineStopped n).line n).cap.draining = !(s.admitted n).isEmpty := by
  rw [admitted_off off] at lost ⊢
  rw [line_lineStopped_off off]
  have drains : (s.line n).cap.draining = true ∧ (s.line n).settings.captureMode = .hold := by
    by_contra keeps
    rw [if_neg keeps] at lost
    omega
  rw [if_pos drains] at lost ⊢
  rw [if_pos drains]
  refine ⟨?_, rfl⟩
  have held : ((s.resettled n).reports.held.get n).getLsbD 9 = true := by
    unfold State.resettled
    rw [if_pos (by rw [drains.1, drains.2]; rfl), settleFifo_eq]
    refine keepFifo_drops s n ?_
    rw [List.length_take] at lost
    omega
  cases status : (s.line n).status with
  | on => exact absurd status off
  | configBad =>
    rw [lineStopped_bad status]
    exact held
  | off =>
    rw [lineStopped_off status]
    exact held

/-- The capture state of a line of the stop sequence, before memory failure discards its FIFO. -/
theorem lineStopped_cap (s : State) (n : LineNo) :
    let c := (s.line n).cap
    let k := ((s.lineStopped n).line n).cap
    let lost := c.fifo.length - (s.admitted n).length
    k.fifo = s.admitted n ∧ k.head = c.head ∧ k.taken = c.taken ∧
    (c.dropped ≤ 4294967295 → k.dropped = min 4294967295 (c.dropped + lost)) ∧
    (0 < lost → ((s.lineStopped n).reports.held.get n).getLsbD 9 = true ∧ k.draining = !(s.admitted n).isEmpty) := by
  intro c k lost
  by_cases on : (s.line n).status = .on
  · obtain ⟨-, -, -, -, -, -, -, -, -, -, -, -, -, -, cap⟩ := goneOff s n .stopped .endedByStop
    obtain ⟨drops, -, -⟩ := lineOff_says s n .stopped .endedByStop
    rw [← lineStopped_on on, ← admitted_on on] at cap drops
    rw [show k = _ from cap]
    exact ⟨rfl, rfl, rfl, fun _ => rfl, fun some => ⟨drops some, rfl⟩⟩
  · have cap : k = if (s.line n).cap.draining = true ∧ (s.line n).settings.captureMode = .hold then
        (s.line n).cap.keep (s.keepCount n) else (s.line n).cap := congrArg Line.cap (line_lineStopped_off on)
    refine ⟨?_, ?_, ?_, fun within => ?_, fun some => resettled_drops some on⟩
    · rw [admitted_off on, cap]
      split <;> rfl
    · rw [cap]
      split <;> rfl
    · rw [cap]
      split <;> rfl
    · change _ = min 4294967295 (c.dropped + (c.fifo.length - (s.admitted n).length))
      rw [admitted_off on, cap]
      split
      · rw [keep_eq]
      · rw [Nat.sub_self, Nat.add_zero, Nat.min_eq_right within]

/-! ## The line after its turn -/

theorem stopLine_faulty (flag : s.port.flag = true) : s.stopLine n = (s.lineStopped n).discardFifo n := by
  rw [stopLine_eq, if_pos]
  rw [lineStopped_port]
  split <;> exact flag

theorem stopLine_sound (flag : s.port.flag = false) : s.stopLine n = s.lineStopped n := by
  rw [stopLine_eq, if_neg]
  rw [lineStopped_port, Bool.not_eq_true]
  split <;> exact flag

/-- The capture state of a line after its turn in the stop sequence (R80). -/
theorem stopLine_cap (s : State) (n : LineNo) :
    let c := (s.line n).cap
    let k := ((s.stopLine n).line n).cap
    let lost := c.fifo.length - (s.keptAtStop n).length
    k.fifo = s.keptAtStop n ∧ k.head = c.head ∧ k.taken = c.taken ∧
    (c.dropped ≤ 4294967295 → k.dropped = min 4294967295 (c.dropped + lost)) ∧
    (0 < lost → ((s.stopLine n).reports.held.get n).getLsbD 9 = true ∧ k.draining = !(s.keptAtStop n).isEmpty) := by
  obtain ⟨fifo, head, taken, dropped, drops⟩ := lineStopped_cap s n
  have admits := length_admitted_le s n
  cases flag : s.port.flag with
  | false =>
    rw [stopLine_sound flag, State.keptAtStop, flag]
    exact ⟨fifo, head, taken, dropped, drops⟩
  | true =>
    obtain ⟨fifo', head', taken', dropped', draining'⟩ := discarded_fifo ((s.lineStopped n).line n).cap
    have drops' := discardFifo_drops (s := s.lineStopped n) (n := n)
    rw [fifo] at dropped' draining' drops'
    rw [stopLine_faulty flag, line_discardFifo, State.keptAtStop, flag]
    refine ⟨fifo', head'.trans head, taken'.trans taken, fun within => ?_, fun some => ?_⟩
    · have before := dropped within
      refine (dropped' (by omega)).trans ?_
      change _ = min 4294967295 ((s.line n).cap.dropped + ((s.line n).cap.fifo.length - 0))
      omega
    · change 0 < (s.line n).cap.fifo.length - 0 at some
      by_cases kept : 0 < (s.admitted n).length
      · exact ⟨drops' kept, draining' kept⟩
      · have lost : 0 < (s.line n).cap.fifo.length - (s.admitted n).length := by omega
        have none : s.admitted n = [] := List.length_eq_zero_iff.1 (by omega)
        obtain ⟨held, draining⟩ := drops lost
        refine ⟨(grows_discardFifo _ n).held 9 held, ?_⟩
        change ((s.lineStopped n).line n).cap.discarded.draining = _
        rw [Capture.discarded, fifo, none]
        exact draining.trans (by rw [none]; rfl)

/-- But for its capture state, the line is after its turn as before memory failure discards its FIFO. -/
theorem line_stopLine (s : State) (n : LineNo) :
    (s.stopLine n).line n = { (s.lineStopped n).line n with cap := ((s.stopLine n).line n).cap } := by
  cases flag : s.port.flag with
  | false => rw [stopLine_sound flag]
  | true => rw [stopLine_faulty flag, line_discardFifo]

theorem grows_fromStopped (s : State) (n : LineNo) : Grows n (s.lineStopped n) (s.stopLine n) := by
  rw [stopLine_eq]
  split
  · exact grows_discardFifo ..
  · exact .refl n _

/-- What every line is after its turn. -/
theorem stopLine_every (s : State) (n : LineNo) :
    let l := s.line n
    let k := (s.stopLine n).line n
    k.status = .off ∧ (l.status = .configBad → k.refusal = .none ∧ (s.stopLine n).reports.dirty.get n = true) ∧
    k.settings = l.settings ∧ k.period = l.period ∧ k.sent = l.sent := by
  intro l k
  have line : k = _ := line_stopLine s n
  rw [line]
  by_cases on : (s.line n).status = .on
  · obtain ⟨status, -, settings, period, -, -, -, -, -, -, sent, -⟩ := goneOff s n .stopped .endedByStop
    rw [← lineStopped_on on] at status settings period sent
    refine ⟨status, fun bad => ?_, settings, period, sent⟩
    exact absurd (on.symm.trans bad) (by decide)
  · have off := line_lineStopped_off on
    generalize (s.lineStopped n).line n = x at off
    subst off
    refine ⟨rfl, fun bad => ⟨if_pos bad, (grows_fromStopped s n).dirty n ?_⟩, rfl, rfl, rfl⟩
    rw [lineStopped_bad bad]
    exact dirty_mark_self ..

/-- What a line that was ON is after its turn (R5, R191). -/
theorem stopLine_on (on : (s.line n).status = .on) :
    let l := s.line n
    let k := (s.stopLine n).line n
    let kept := s.keptAtStop n
    k.cap = { l.cap with
      trigger := .off, pattern := none, lead := 0, remaining := 0
      tail := (if l.settings.captureMode = .hold then l.cap.taken else l.cap.tail), fifo := kept
      dropped := min 4294967295 (l.cap.dropped + (l.cap.fifo.length - kept.length)), draining := !kept.isEmpty } ∧
    k.run.state = .idle ∧ (l.run.state = .idle → k.run = l.run) ∧
    (l.run.state ≠ .idle → k.run.last = some ⟨.stopped, 0,
        if l.run.state = .queued then l.run.entry else l.run.current, .endedByStop, s.clock.ms⟩ ∧
      ((s.stopLine n).reports.held.get n).getLsbD 0 = true) ∧
    k.det = l.det.cancelled s.now ∧ k.out.state = .rest ∧ k.owner = .free ∧ k.staging = [] ∧ k.flowHeld = false ∧
    k.frame = none ∧ k.breaks = [] ∧ (l.tx.isSending = false → k.tx = .idle) ∧ k.refusal = .none ∧
    (s.stopLine n).reports.dirty.get n = true := by
  intro l k kept
  have gone := goneOff s n .stopped .endedByStop
  have run := goneOff_run s n .stopped .endedByStop
  obtain ⟨quiet, -⟩ := goneOff_tx s n .stopped .endedByStop
  obtain ⟨-, ended, dirty⟩ := lineOff_says s n .stopped .endedByStop
  rw [← lineStopped_on on] at gone run quiet ended dirty
  obtain ⟨-, refusal, -, -, frame, -, breaks, held, owner, staging, -, out, det, -, cap⟩ := gone
  rw [← admitted_on on] at cap
  obtain ⟨idle, same, last⟩ := run
  have grown := grows_fromStopped s n
  have line : k = _ := line_stopLine s n
  refine ⟨?_, ?_⟩
  · change ((s.stopLine n).line n).cap = { (s.line n).cap with
      trigger := .off, pattern := none, lead := 0, remaining := 0
      tail := (if (s.line n).settings.captureMode = .hold then (s.line n).cap.taken else (s.line n).cap.tail)
      fifo := s.keptAtStop n
      dropped := min 4294967295 ((s.line n).cap.dropped + ((s.line n).cap.fifo.length - (s.keptAtStop n).length))
      draining := !(s.keptAtStop n).isEmpty }
    cases flag : s.port.flag with
    | false =>
      rw [stopLine_sound flag, State.keptAtStop, flag]
      exact cap
    | true =>
      have admits := length_admitted_le s n
      rw [stopLine_faulty flag, line_discardFifo, State.keptAtStop, flag]
      change ((s.lineStopped n).line n).cap.discarded = _
      rw [cap, Capture.discarded]
      cases admitted : s.admitted n with
      | nil => rfl
      | cons x xs =>
        rw [admitted, List.length_cons] at admits
        have sum : min 4294967295 (min 4294967295 ((s.line n).cap.dropped + ((s.line n).cap.fifo.length - (xs.length + 1))) +
            (xs.length + 1)) = min 4294967295 ((s.line n).cap.dropped + ((s.line n).cap.fifo.length - 0)) := by omega
        change Capture.keep _ 0 = _
        rw [keep_eq]
        exact congrArg (fun d => { (s.line n).cap with
          trigger := .off, pattern := none, lead := 0, remaining := 0
          tail := (if (s.line n).settings.captureMode = CaptureMode.hold then (s.line n).cap.taken else (s.line n).cap.tail)
          fifo := [], dropped := d, draining := false }) sum
  · rw [line]
    exact ⟨idle, same, fun busy => ⟨last busy, grown.held 0 (ended busy)⟩, det, out, owner, staging, held, frame, breaks,
      quiet, refusal, grown.dirty n dirty⟩

/-- What a line that was not ON keeps through its turn. -/
theorem stopLine_off (off : (s.line n).status ≠ .on) :
    let l := s.line n
    let k := (s.stopLine n).line n
    k.run = l.run ∧ k.out = l.out ∧ k.tx = l.tx ∧ k.owner = l.owner := by
  intro l k
  have line : k = _ := line_stopLine s n
  rw [line]
  have stopped := line_lineStopped_off off
  generalize (s.lineStopped n).line n = x at stopped
  subst stopped
  exact ⟨rfl, rfl, rfl, rfl⟩

end

end Sys2Proof.Machine
end

section
/-! SUPPORT. The stop sequence through all lines (R191). O6: RUN written 0. -/

namespace Sys2Proof.Machine

section
variable {s t u r : State} {n m : LineNo}

/-! ## The lines, turn by turn -/

/-- What the stop sequence, begun in s, keeps of the part. -/
structure Stopping (s t : State) : Prop where
  common  : t.common = s.common
  port    : t.port = { s.port with inFlight := t.port.inFlight }
  idle    : s.port.inFlight = none → t.port.inFlight = none
  flight  : ∀ x, s.port.inFlight = some x → t.port.inFlight = some x ∨
    t.port.inFlight = some { x with stale := true } ∧ ∃ m, x.job = .fetch m ∧ (s.line m).status = .on
  loader  : t.store.loader = s.store.loader
  station : t.reports.heldStation = s.reports.heldStation
  finder  : s.FinderCoherent → t.FinderCoherent

/-- A line whose turn is to come is as it was, but that a slot granted may have begun its measurement. -/
structure Waiting (s : State) (n : LineNo) (t : State) : Prop where
  line : t.line n = { s.line n with det := (t.line n).det }
  busy : (s.line n).det.state ≠ .none → (t.line n).det.state ≠ .none

/-- A line that had its turn in r is as that turn left it. -/
structure Turned (s : State) (n : LineNo) (t r : State) : Prop where
  begun   : Stopping s r
  waiting : Waiting s n r
  line    : t.line n = { (r.stopLine n).line n with det := (t.line n).det }
  held    : t.reports.held.get n = (r.stopLine n).reports.held.get n
  dirty   : (r.stopLine n).reports.dirty.get n = true → t.reports.dirty.get n = true
  fetch   : (s.line n).status = .on → ∀ x, s.port.inFlight = some x → x.job = .fetch n →
    t.port.inFlight = some { x with stale := true }
  free    : s.FinderCoherent → (s.line n).status = .on → (t.line n).det = ((r.stopLine n).line n).det

theorem Stopping.refl (s : State) : Stopping s s :=
  ⟨rfl, rfl, id, fun _ flying => .inl flying, rfl, rfl, id⟩

theorem Waiting.refl (s : State) (n : LineNo) : Waiting s n s := ⟨rfl, id⟩

theorem Waiting.status (w : Waiting s n t) : (t.line n).status = (s.line n).status := by rw [w.line]

/-- What one line's turn makes of the transaction in flight. -/
theorem stopLine_flight (s : State) (n : LineNo) : (s.stopLine n).port.inFlight =
    if (s.line n).status = .on then
      s.port.inFlight.map fun x => if x.job = .fetch n then { x with stale := true } else x
    else s.port.inFlight := by
  rw [port_stopLine]
  split
  · change s.port.inFlight.map _ = _
    exact congrArg (fun g => s.port.inFlight.map g) (funext fun x => if_congr beq_iff_eq rfl rfl)
  · rfl

theorem stopLine_portSame (s : State) (n : LineNo) :
    (s.stopLine n).port = { s.port with inFlight := (s.stopLine n).port.inFlight } := by
  rw [port_stopLine]
  split <;> rfl

theorem Stopping.turn (p : Stopping s t) (w : Waiting s n t) : Stopping s (t.stopLine n) where
  common := (common_stopLine t n).trans p.common
  port := by rw [stopLine_portSame, p.port]
  idle none := by
    rw [stopLine_flight, p.idle none]
    split <;> rfl
  flight x flying := by
    rw [stopLine_flight, w.status]
    by_cases on : (s.line n).status = .on
    · rw [if_pos on]
      rcases p.flight x flying with same | ⟨stale, owner⟩
      · rw [same, Option.map_some]
        by_cases own : x.job = .fetch n
        · rw [if_pos own]
          exact .inr ⟨rfl, n, own, on⟩
        · rw [if_neg own]
          exact .inl rfl
      · refine .inr ⟨?_, owner⟩
        rw [stale, Option.map_some]
        split <;> rfl
    · rw [if_neg on]
      exact p.flight x flying
  loader := (loader_stopLine t n).trans p.loader
  station := (grows_stopLine t n).station.trans p.station
  finder finder := finder_stopLine t n (p.finder finder)

theorem Waiting.turn (w : Waiting s n t) (apart : n ≠ m) : Waiting s n (t.stopLine m) where
  line := by
    rw [stopLine_other t apart, w.line]
  busy running := by
    rcases (beside_stopLine t m).det n apart with same | ⟨-, grant⟩
    · rw [same]
      exact w.busy running
    · rw [grant]
      exact nofun

theorem Waiting.turned (w : Waiting s n t) (p : Stopping s t) : Turned s n (t.stopLine n) t where
  begun := p
  waiting := w
  line := rfl
  held := rfl
  dirty := id
  fetch on x flying own := by
    rw [stopLine_flight, w.status, if_pos on]
    rcases p.flight x flying with same | ⟨stale, -⟩
    · rw [same, Option.map_some, if_pos own]
    · rw [stale, Option.map_some, if_pos own]
  free _ _ := rfl

theorem Turned.turn (q : Turned s n t r) (p : Stopping s t) (apart : n ≠ m) : Turned s n (t.stopLine m) r where
  begun := q.begun
  waiting := q.waiting
  line := by rw [stopLine_other t apart, q.line]
  held := ((grows_stopLine t m).others n apart).trans q.held
  dirty marked := (grows_stopLine t m).dirty n (q.dirty marked)
  fetch on x flying own := by
    rw [stopLine_flight, q.fetch on x flying own]
    split
    · rw [Option.map_some]
      split <;> rfl
    · rfl
  free finder on := by
    have ended := q.free finder on
    rcases (beside_stopLine t m).det n apart with same | ⟨member, -⟩
    · exact same.trans ended
    · have queued := ((p.finder finder).queued n).1 member
      obtain ⟨-, -, -, -, det, -⟩ := stopLine_on (s := r) (n := n) (q.waiting.status.trans on)
      rw [ended, det, cancelled_state] at queued
      cases queued

/-- The stop sequence gives each line its turn. -/
theorem stopLines_turns (s : State) : Stopping s (s.forLines fun n t => t.stopLine n) ∧
    ∀ n, ∃ r, Turned s n (s.forLines fun n t => t.stopLine n) r :=
  forLines_turns (P := Stopping s) (R := Waiting s) (Q := fun n t => ∃ r, Turned s n t r) (.refl s) (.refl s)
    (fun _ t p w => ⟨p.turn w, t, w.turned p⟩) (fun _ _ _ apart _ w => w.turn apart)
    fun _ _ _ apart p ⟨r, q⟩ => ⟨r, q.turn p apart⟩

/-! ## What the line had before its turn -/

theorem Turned.flag (q : Turned s n t r) : r.port.flag = s.port.flag := by rw [q.begun.port]

theorem Turned.clock (q : Turned s n t r) : r.clock = s.clock := congrArg Common.clock q.begun.common

theorem carriedFor_some {x : Transaction} (flying : s.port.inFlight = some x) :
    s.carriedFor n = if x.job = .capture n ∧ x.stale = false then x.length else 0 := by
  unfold State.carriedFor
  rw [flying]

theorem carriedFor_none (idle : s.port.inFlight = none) : s.carriedFor n = 0 := by
  unfold State.carriedFor
  rw [idle]

/-- No turn touches a capture write in flight. -/
theorem Stopping.carriedFor (p : Stopping s t) (n : LineNo) : t.carriedFor n = s.carriedFor n := by
  cases flying : s.port.inFlight with
  | none => rw [carriedFor_none flying, carriedFor_none (p.idle flying)]
  | some x =>
    rw [carriedFor_some flying]
    rcases p.flight x flying with same | ⟨stale, m, job, -⟩
    · rw [carriedFor_some same]
    · have other : ¬(x.job = .capture n ∧ x.stale = false) := fun ⟨capture, _⟩ => nomatch job.symm.trans capture
      have discards : ¬(x.job = .capture n ∧ true = false) := fun ⟨_, fresh⟩ => nomatch fresh
      rw [carriedFor_some stale, if_neg other, if_neg discards]

theorem Turned.kept (q : Turned s n t r) : r.keptAtStop n = s.keptAtStop n := by
  unfold State.keptAtStop State.admitted
  rw [q.flag, q.begun.carriedFor, q.waiting.line]

/-- The beginning of a stop discards only reads of the Scanner: it leaves what a capture write carries. -/
theorem stopping_carriedFor (s : State) (n : LineNo) : s.stopping.carriedFor n = s.carriedFor n := by
  cases flying : s.port.inFlight with
  | none =>
    have idle : s.stopping.port.inFlight = none := congrArg (Option.map _) flying
    rw [carriedFor_none flying, carriedFor_none idle]
  | some x =>
    have after : s.stopping.port.inFlight = some (if (x.job.client == .scanner) = true then { x with stale := true } else x) :=
      congrArg (Option.map _) flying
    rw [carriedFor_some flying, carriedFor_some after]
    by_cases scan : (x.job.client == .scanner) = true
    · have other : ¬(x.job = .capture n ∧ x.stale = false) := fun ⟨job, _⟩ => by
        rw [job] at scan
        cases scan
      have discards : ¬(x.job = .capture n ∧ true = false) := fun ⟨_, fresh⟩ => nomatch fresh
      rw [if_pos scan, if_neg other, if_neg discards]
    · rw [if_neg scan]

theorem stopping_kept (s : State) (n : LineNo) : s.stopping.keptAtStop n = s.keptAtStop n := by
  unfold State.keptAtStop State.admitted
  rw [stopping_carriedFor]
  rfl

end

end Sys2Proof.Machine
end

section
/-! O6. RUN written 0 while RUNNING (R191): the stop sequence begins. -/

namespace Sys2Proof.Machine

section
variable {s t u r : State} {n m : LineNo}

/-! ## The load in progress concludes (R99, R191) -/

/-- The conclusion of whatever load is in progress touches no line. -/
theorem endLoad_beside (s : State) (r : LoadResult) :
    (s.endLoad r).lines = s.lines ∧ (s.endLoad r).port = s.port ∧ (s.endLoad r).queue = s.queue ∧
    (s.endLoad r).slots = s.slots ∧ (s.endLoad r).reports.held = s.reports.held ∧
    (s.endLoad r).reports.dirty = s.reports.dirty ∧ (s.endLoad r).store.loader = none := by
  unfold State.endLoad
  split
  next none => exact ⟨rfl, rfl, rfl, rfl, rfl, rfl, none⟩
  · exact ⟨rfl, rfl, rfl, rfl, rfl, rfl, rfl⟩

theorem endLoad_idle (none : s.store.loader = none) (r : LoadResult) : s.endLoad r = s := by
  unfold State.endLoad
  rw [none]

/-- A load in progress concludes CANCELLED: its block is EMPTY, and LOAD_CONCLUDED is held. -/
theorem endLoad_cancelled {l : Loader} (loading : s.store.loader = some l) :
    let u := s.endLoad .cancelled
    (u.block l.block).state = .empty ∧ (u.block l.block).steps = [] ∧ u.store.loadResult = .cancelled ∧
    u.store.loadBlock = l.block.val ∧ u.store.loadIndex = 0 ∧
    u.reports.heldStation = s.reports.heldStation ||| 0x2 := by
  have concludes : s.endLoad .cancelled = s.concludeLoad l .cancelled 0 := by
    unfold State.endLoad
    rw [loading]
  intro u
  rw [show u = _ from concludes]
  have block : (s.concludeLoad l .cancelled 0).block l.block = (s.block l.block).concluded l .cancelled :=
    block_modBlock_self s l.block fun b => b.concluded l .cancelled
  rw [block]
  exact ⟨rfl, rfl, rfl, rfl, rfl, rfl⟩

/-! ## The part as the stop sequence has begun -/

/-- What is discarded of the transaction in flight as a stop begins (R191). -/
def State.discardedAtStop (s : State) (t : Transaction) : Prop :=
  t.job.client = .scanner ∨ t.job.client = .loader ∨ ∃ n, t.job = .fetch n ∧ (s.line n).status = .on

theorem linesStopped_turns (s : State) :
    Stopping s.stopping s.linesStopped ∧ ∀ n, ∃ r, Turned s.stopping n s.linesStopped r := stopLines_turns s.stopping

/-- The fields of the part that no line's event touches. -/
theorem common_parts (same : t.common = s.common) : t.ctl = s.ctl ∧ t.scan = s.scan ∧ t.lockSet = s.lockSet ∧
    t.clock = s.clock ∧ t.notices = s.notices ∧ t.linesInUse = s.linesInUse :=
  ⟨ctl_of_common same, scan_of_common same, congrArg Common.lockSet same, congrArg Common.clock same,
    congrArg Common.notices same, congrArg Common.linesInUse same⟩

/-- What the last step of the stop sequence, after its lines, leaves of them. -/
theorem stopConcluded (s : State) (p : Job → Bool) :
    let u := ((s.makeStale p).endLoad .cancelled).markHeader
    u.lines = s.lines ∧ u.common = s.common ∧ u.reports.held = s.reports.held ∧ u.reports.dirty = s.reports.dirty ∧
    u.queue = s.queue ∧ u.slots = s.slots ∧ u.store.loader = none ∧ u.reports.headerDirty = true ∧
    (s.store.loader = none → u.reports.heldStation = s.reports.heldStation) ∧
    u.port = { s.port with inFlight := s.port.inFlight.map (fun x => if p x.job = true then { x with stale := true } else x) } := by
  obtain ⟨lines, port, queue, slots, held, dirty, loader⟩ := endLoad_beside (s.makeStale p) .cancelled
  have common := common_endLoad (s.makeStale p) .cancelled
  refine ⟨lines, common, held, dirty, queue, slots, loader, rfl, fun none => ?_, port⟩
  rw [endLoad_idle (s := s.makeStale p) none]
  rfl

/-- The load concluded as the last step of the stop sequence. -/
theorem stopConcluded_load {l : Loader} (p : Job → Bool) (loading : s.store.loader = some l) :
    let u := ((s.makeStale p).endLoad .cancelled).markHeader
    (u.block l.block).state = .empty ∧ (u.block l.block).steps = [] ∧ u.store.loadResult = .cancelled ∧
    u.store.loadBlock = l.block.val ∧ u.store.loadIndex = 0 ∧
    u.reports.heldStation = s.reports.heldStation ||| 0x2 := endLoad_cancelled (s := s.makeStale p) loading

theorem beginStop_line (s : State) (n : LineNo) : s.beginStop.line n = s.linesStopped.line n := by
  obtain ⟨lines, -⟩ := stopConcluded s.linesStopped fun j => j.client == .loader
  rw [beginStop_eq]
  exact line_congr lines n

theorem beginStop_says (s : State) : s.beginStop.reports.held = s.linesStopped.reports.held ∧
    s.beginStop.reports.dirty = s.linesStopped.reports.dirty ∧ s.beginStop.queue = s.linesStopped.queue ∧
    s.beginStop.slots = s.linesStopped.slots := by
  obtain ⟨-, -, held, dirty, queue, slots, -⟩ := stopConcluded s.linesStopped fun j => j.client == .loader
  rw [beginStop_eq]
  exact ⟨held, dirty, queue, slots⟩

theorem beginStop_common (s : State) : s.beginStop.common = s.stopping.common := by
  obtain ⟨-, common, -⟩ := stopConcluded s.linesStopped fun j => j.client == .loader
  rw [← common_linesStopped, beginStop_eq]
  exact common

theorem beginStop_load (s : State) : s.beginStop.reports.headerDirty = true ∧ s.beginStop.store.loader = none ∧
    (s.store.loader = none → s.beginStop.reports.heldStation = s.reports.heldStation) ∧
    ∀ l, s.store.loader = some l → (s.beginStop.block l.block).state = .empty ∧ (s.beginStop.block l.block).steps = [] ∧
      s.beginStop.store.loadResult = .cancelled ∧ s.beginStop.store.loadBlock = l.block.val ∧
      s.beginStop.store.loadIndex = 0 ∧ s.beginStop.reports.heldStation = s.reports.heldStation ||| 0x2 := by
  obtain ⟨lines, -⟩ := linesStopped_turns s
  have loading : s.linesStopped.store.loader = s.store.loader := lines.loader
  have station : s.linesStopped.reports.heldStation = s.reports.heldStation := lines.station
  obtain ⟨-, -, -, -, -, -, loader, header, idle, -⟩ := stopConcluded s.linesStopped fun j => j.client == .loader
  rw [beginStop_eq]
  refine ⟨header, loader, fun none => (idle (loading.trans none)).trans station, fun l some => ?_⟩
  rw [← station]
  exact stopConcluded_load _ (loading.trans some)

theorem beginStop_port (s : State) : s.beginStop.port = { s.linesStopped.port with
    inFlight := s.linesStopped.port.inFlight.map fun x =>
      if (x.job.client == .loader) = true then { x with stale := true } else x } := by
  obtain ⟨-, -, -, -, -, -, -, -, -, port⟩ := stopConcluded s.linesStopped fun j => j.client == .loader
  rw [beginStop_eq]
  exact port

/-- The transaction in flight as a stop begins. -/
theorem beginStop_flight (s : State) :
    s.beginStop.port = { s.port with inFlight := s.beginStop.port.inFlight } ∧
    (s.port.inFlight = none → s.beginStop.port.inFlight = none) ∧
    ∀ t, s.port.inFlight = some t →
      (s.discardedAtStop t → s.beginStop.port.inFlight = some { t with stale := true }) ∧
      (¬s.discardedAtStop t → s.beginStop.port.inFlight = some t) := by
  obtain ⟨lines, turns⟩ := linesStopped_turns s
  have port := beginStop_port s
  have same : s.linesStopped.port = { s.port with inFlight := s.linesStopped.port.inFlight } := lines.port
  have flight : s.beginStop.port.inFlight = s.linesStopped.port.inFlight.map fun x =>
      if (x.job.client == .loader) = true then { x with stale := true } else x := by rw [port]
  refine ⟨?_, fun none => ?_, fun t flying => ?_⟩
  · rw [port, same]
  · rw [flight, lines.idle (congrArg (Option.map _) none)]
    rfl
  · have after : s.stopping.port.inFlight =
        some (if (t.job.client == .scanner) = true then { t with stale := true } else t) := congrArg (Option.map _) flying
    have either := lines.flight _ after
    have fetched := fun n r (q : Turned s.stopping n s.linesStopped r) on => q.fetch on _ after
    refine ⟨fun discards => ?_, fun keeps => ?_⟩
    · by_cases scan : (t.job.client == .scanner) = true
      · rw [if_pos scan] at either
        have stale : s.linesStopped.port.inFlight = some { t with stale := true } := either.elim id And.left
        rw [flight, stale, Option.map_some]
        split <;> rfl
      · rw [if_neg scan] at either fetched
        by_cases load : (t.job.client == .loader) = true
        · rw [flight]
          rcases either with is | ⟨is, -⟩
          · rw [is, Option.map_some, if_pos load]
          · rw [is, Option.map_some]
            exact congrArg Option.some (if_pos load)
        · rcases discards with client | client | ⟨n, job, on⟩
          · exact absurd (beq_iff_eq.2 client) scan
          · exact absurd (beq_iff_eq.2 client) load
          · obtain ⟨r, q⟩ := turns n
            rw [flight, fetched n r q on job, Option.map_some]
            exact congrArg Option.some (if_neg load)
    · have scan : ¬(t.job.client == .scanner) = true := fun is => keeps (.inl (beq_iff_eq.1 is))
      have load : ¬(t.job.client == .loader) = true := fun is => keeps (.inr (.inl (beq_iff_eq.1 is)))
      rw [if_neg scan] at either
      rcases either with is | ⟨-, n, job, on⟩
      · rw [flight, is, Option.map_some, if_neg load]
      · exact absurd (.inr (.inr ⟨n, job, on⟩)) keeps

/-- With a coherent Rate Finder, a line that was ON is no longer of it. -/
theorem beginStop_finder (finder : s.FinderCoherent) (on : (s.line n).status = .on) :
    (s.beginStop.line n).det.state = .none ∧ n ∉ s.beginStop.queue ∧ n ∉ s.beginStop.slots ∧
    ((s.line n).det.state ≠ .none → (s.beginStop.line n).det.outcome = .cancelled) := by
  have begun : s.stopping.FinderCoherent := finder_of_lines (s := s) rfl rfl rfl finder
  obtain ⟨lines, turns⟩ := linesStopped_turns s
  obtain ⟨r, q⟩ := turns n
  obtain ⟨-, -, queue, slots⟩ := beginStop_says s
  obtain ⟨-, -, -, -, det, -⟩ := stopLine_on (s := r) (n := n) (q.waiting.status.trans on)
  have same : (s.beginStop.line n).det = (r.line n).det.cancelled r.now := by
    rw [beginStop_line, q.free begun on, det]
  have none : (s.linesStopped.line n).det.state = .none := by
    rw [← beginStop_line, same]
    exact cancelled_state ..
  have coherent := lines.finder begun
  refine ⟨by rw [same]; exact cancelled_state .., ?_, ?_, fun running => ?_⟩
  · rw [queue, coherent.queued, none]
    exact nofun
  · rw [slots, coherent.measuring, none]
    exact nofun
  · rw [same]
    exact cancelled_outcome (q.waiting.busy running) _

/-- What every line is as the stop sequence has begun. -/
theorem beginStop_every (s : State) (n : LineNo) :
    let l := s.line n
    let k := s.beginStop.line n
    let kept := s.keptAtStop n
    let lost := l.cap.fifo.length - kept.length
    k.status = .off ∧ (l.status = .configBad → k.refusal = .none ∧ s.beginStop.reports.dirty.get n = true) ∧
    k.settings = l.settings ∧ k.period = l.period ∧ k.sent = l.sent ∧ k.cap.fifo = kept ∧
    (l.cap.dropped ≤ 4294967295 → k.cap.dropped = min 4294967295 (l.cap.dropped + lost)) ∧
    k.cap.head = l.cap.head ∧ k.cap.taken = l.cap.taken ∧
    (0 < lost → (s.beginStop.reports.held.get n).getLsbD 9 = true ∧ k.cap.draining = !kept.isEmpty) := by
  obtain ⟨-, turns⟩ := linesStopped_turns s
  obtain ⟨r, q⟩ := turns n
  obtain ⟨held, dirty, -⟩ := beginStop_says s
  obtain ⟨status, bad, settings, period, sent⟩ := stopLine_every r n
  obtain ⟨fifo, head, taken, dropped, drops⟩ := stopLine_cap r n
  have kept : r.keptAtStop n = s.keptAtStop n := q.kept.trans (stopping_kept s n)
  have was : r.line n = { s.line n with det := (r.line n).det } := q.waiting.line
  generalize (r.line n).det = d at was
  rw [was] at bad settings period sent head taken
  rw [was, kept] at dropped drops
  rw [kept] at fifo
  rw [beginStop_line, held, dirty, q.held, q.line]
  exact ⟨status, fun is => ⟨(bad is).1, q.dirty (bad is).2⟩, settings, period, sent, fifo, dropped, head, taken, drops⟩

/-- What a line that was ON is as the stop sequence has begun. -/
theorem beginStop_on (on : (s.line n).status = .on) :
    let l := s.line n
    let k := s.beginStop.line n
    let kept := s.keptAtStop n
    k.cap = { l.cap with
      trigger := .off, pattern := none, lead := 0, remaining := 0
      tail := (if l.settings.captureMode = .hold then l.cap.taken else l.cap.tail), fifo := kept
      dropped := min 4294967295 (l.cap.dropped + (l.cap.fifo.length - kept.length)), draining := !kept.isEmpty } ∧
    k.run.state = .idle ∧ (l.run.state = .idle → k.run = l.run) ∧
    (l.run.state ≠ .idle → k.run.last = some ⟨.stopped, 0,
        if l.run.state = .queued then l.run.entry else l.run.current, .endedByStop, s.clock.ms⟩ ∧
      (s.beginStop.reports.held.get n).getLsbD 0 = true) ∧
    k.out.state = .rest ∧ k.owner = .free ∧ k.staging = [] ∧ k.flowHeld = false ∧ k.frame = none ∧ k.breaks = [] ∧
    (l.tx.isSending = false → k.tx = .idle) ∧ k.refusal = .none ∧ s.beginStop.reports.dirty.get n = true := by
  obtain ⟨-, turns⟩ := linesStopped_turns s
  obtain ⟨r, q⟩ := turns n
  obtain ⟨held, dirty, -⟩ := beginStop_says s
  obtain ⟨cap, idle, same, last, -, out, owner, staging, flowHeld, frame, breaks, quiet, refusal, marked⟩ :=
    stopLine_on (s := r) (n := n) (q.waiting.status.trans on)
  have kept : r.keptAtStop n = s.keptAtStop n := q.kept.trans (stopping_kept s n)
  have clock : r.clock = s.clock := q.clock
  have was : r.line n = { s.line n with det := (r.line n).det } := q.waiting.line
  generalize (r.line n).det = d at was
  rw [was, kept] at cap
  rw [was] at same quiet
  rw [was, clock] at last
  rw [beginStop_line, held, dirty, q.held, q.line]
  exact ⟨cap, idle, same, last, out, owner, staging, flowHeld, frame, breaks, quiet, refusal, q.dirty marked⟩

/-- What a line that was not ON keeps as the stop sequence begins. -/
theorem beginStop_off (off : (s.line n).status ≠ .on) :
    let l := s.line n
    let k := s.beginStop.line n
    k.run = l.run ∧ k.out = l.out ∧ k.tx = l.tx ∧ k.owner = l.owner := by
  obtain ⟨-, turns⟩ := linesStopped_turns s
  obtain ⟨r, q⟩ := turns n
  have was : r.line n = { s.line n with det := (r.line n).det } := q.waiting.line
  obtain ⟨run, out, tx, owner⟩ := stopLine_off (s := r) (n := n) fun on => off (q.waiting.status.symm.trans on)
  generalize (r.line n).det = d at was
  rw [was] at run out tx owner
  rw [beginStop_line, q.line]
  exact ⟨run, out, tx, owner⟩

/-- RUN written 0 while RUNNING (R186, R191): SWEEP_NOW has no effect once the stop has begun. -/
theorem runWritten0_begins (ie sn : Bool) (answers : s.ctl.inReset = false) (running : s.ctl.part = .running) :
    exec (.runWritten0 ie sn) s = .next (s.enabled ie).beginStop.settlePort := by
  have stops : (s.enabled ie).runZero = (s.enabled ie).beginStop := by
    unfold State.runZero
    rw [show (s.enabled ie).ctl.part = .running from running]
  obtain ⟨ctl, -⟩ := common_parts (beginStop_common (s.enabled ie))
  have part : (s.enabled ie).beginStop.ctl.part = .stopping := by
    rw [ctl]
    rfl
  rw [exec_runWritten0 ie sn answers]
  refine congrArg (fun v : State => Host.Outcome.next v.settlePort) ?_
  change (if sn = true ∧ (s.enabled ie).runZero.ctl.part = .running then (s.enabled ie).runZero.askSweep
    else (s.enabled ie).runZero) = _
  have stopped : ¬(sn = true ∧ (s.enabled ie).beginStop.ctl.part = .running) := fun ⟨_, is⟩ =>
    nomatch part.symm.trans is
  rw [stops, if_neg stopped]

end

/-- Settles O6: the control registers and the port beside the lines, then each line by whether it was ON. -/
theorem stopBegins : Obligations.StopBegins := by
  intro ie sn s answers running discarded
  have row := runWritten0_begins ie sn answers running
  have common := common_parts (beginStop_common (s.enabled ie))
  have load := beginStop_load (s.enabled ie)
  have flight := beginStop_flight (s.enabled ie)
  have every := beginStop_every (s.enabled ie)
  have wasOn := fun n => beginStop_on (s := s.enabled ie) (n := n)
  have wasOff := fun n => beginStop_off (s := s.enabled ie) (n := n)
  have free := fun n finder => beginStop_finder (s := s.enabled ie) (n := n)
    (finder_of_lines (s := s) (t := s.enabled ie) rfl rfl rfl finder)
  generalize (s.enabled ie).beginStop = u at *
  obtain ⟨ctl, scan, lock, clock, notices, inUse⟩ := common
  obtain ⟨header, loader, idle, loaded⟩ := load
  refine ⟨u, row, ⟨ctl, scan, header, lock, clock, notices, inUse, loader⟩, loaded, idle, flight, fun n => ?_⟩
  intro l k c on hold carried admitted kept lost
  obtain ⟨status, bad, settings, period, sent, fifo, dropped, head, taken, drops⟩ := every n
  refine ⟨status, bad, settings, period, sent, fifo, dropped, head, taken, drops, fun on => ?_, fun off => wasOff n off⟩
  obtain ⟨cap, idle, same, last, out, owner, staging, flowHeld, frame, breaks, quiet, refusal, marked⟩ := wasOn n on
  exact ⟨cap, idle, same, last, fun finder => free n finder on, out, owner, staging, flowHeld, frame, breaks, quiet,
    refusal, marked⟩

end Sys2Proof.Machine
end

section
/-! SUPPORT. A line's settings through the events of its run (R7): no step of a script changes them. -/

namespace Sys2Proof.Machine

section
variable {s t u : State} {n : LineNo}

/-- Line n has the settings it had. -/
def SameSettings (n : LineNo) (s t : State) : Prop := (t.line n).settings = (s.line n).settings

theorem SameSettings.refl (n : LineNo) (s : State) : SameSettings n s s := rfl

theorem SameSettings.trans (a : SameSettings n s t) (b : SameSettings n t u) : SameSettings n s u := Eq.trans b a

theorem SameSettings.ite {c : Prop} [Decidable c] (yes : SameSettings n s t) (no : SameSettings n s u) :
    SameSettings n s (if c then t else u) := by
  split
  · exact yes
  · exact no

theorem SameSettings.gated {c : Prop} [Decidable c] (yes : SameSettings n s t) : SameSettings n s (if c then t else s) :=
  yes.ite (.refl n s)

/-! ## The operations on a line -/

theorem settings_modLine {f : Line → Line} (same : (f (s.line n)).settings = (s.line n).settings) :
    SameSettings n s (s.modLine n f) := by
  rw [SameSettings, line_modLine_self]
  exact same

theorem settings_modRun (s : State) (n : LineNo) (f : Runner → Runner) : SameSettings n s (s.modRun n f) :=
  settings_modLine rfl

theorem settings_modDet (s : State) (n : LineNo) (f : Detection → Detection) : SameSettings n s (s.modDet n f) :=
  settings_modLine rfl

theorem settings_mark (s : State) (n m : LineNo) : SameSettings n s (s.mark m) := rfl

theorem settings_raise (s : State) (n m : LineNo) (c : LineCause) : SameSettings n s (s.raise m c) := rfl

theorem settings_markIf (s : State) (n m : LineNo) (b : Bool) : SameSettings n s (s.markIf m b) := by
  cases b
  · exact .refl n s
  · exact settings_mark s n m

theorem settings_grantSlots (s : State) (n : LineNo) : SameSettings n s s.grantSlots := by
  rw [SameSettings, line_grantSlots_det]

theorem settings_leaveFinder (s : State) (n m : LineNo) : SameSettings n s (s.leaveFinder m) := rfl

theorem settings_joinQueue (s : State) (n m : LineNo) : SameSettings n s (s.joinQueue m) := rfl

theorem settings_startDetection (s : State) (n : LineNo) (bound : Bool) : SameSettings n s (s.startDetection n bound) :=
  SameSettings.trans (t := s.detecting n bound)
    (((settings_modDet s n _).trans (settings_mark _ n n)).trans (settings_joinQueue _ n n)) (settings_grantSlots _ n)

theorem settings_endDetection (s : State) (n : LineNo) (o : DetectOutcome) : SameSettings n s (s.endDetection n o) := by
  rw [SameSettings, line_endDetection]
  rfl

theorem settings_endRun (s : State) (n : LineNo) (kind : OutcomeKind) (code : Byte) (exit : TrailExit) :
    SameSettings n s (s.endRun n kind code exit) := by
  rw [SameSettings, line_endRun]
  exact (runEnded_fields ..).1

theorem settings_noteStep (s : State) (n : LineNo) (shown : TrailExit) (immediate : Bool) :
    SameSettings n s (s.noteStep n shown immediate) := by
  rw [SameSettings, line_noteStep]
  rfl

theorem settings_orderBreak (l : Line) (b : BreakOrder) : (l.orderBreak b).settings = l.settings := by
  unfold Line.orderBreak
  split <;> rfl

theorem settings_orderDrive (s : State) (n : LineNo) (o : OutputState) : SameSettings n s (s.orderDrive n o) := by
  rw [SameSettings, line_orderDrive, driven_settings]

theorem settings_orderPulse (s : State) (n : LineNo) (w : Nat) : SameSettings n s (s.orderPulse n w) := by
  rw [SameSettings, line_orderPulse]

theorem settings_setPeriod (s : State) (n : LineNo) (p : Nat) : SameSettings n s (s.setPeriod n p) :=
  (settings_modLine rfl).trans (settings_markIf _ n n _)

theorem settings_armTrigger (s : State) (n : LineNo) (p : Pattern) (post : Nat) :
    SameSettings n s (s.armTrigger n p post) := (settings_modLine rfl).trans (settings_mark _ n n)

/-! ## The actions (R107 to R113) -/

theorem settings_actBreak (s : State) (n : LineNo) : SameSettings n s (s.actBreak n).1 :=
  settings_modLine (settings_orderBreak ..)

theorem settings_actPulse (s : State) (n : LineNo) : SameSettings n s (s.actPulse n).1 := by
  unfold State.actPulse
  split
  · exact .refl n s
  · exact settings_orderPulse ..

theorem settings_actDrive (s : State) (n : LineNo) (o : OutputState) : SameSettings n s (s.actDrive n o).1 := by
  unfold State.actDrive
  split
  · exact .refl n s
  · exact settings_orderDrive ..

theorem settings_actDetect (s : State) (n : LineNo) : SameSettings n s (s.actDetect n).1 :=
  SameSettings.ite (settings_modDet ..) (settings_startDetection ..)

theorem settings_actArm (s : State) (n : LineNo) : SameSettings n s (s.actArm n).1 := by
  unfold State.actArm
  split
  · exact .refl n s
  · exact settings_armTrigger ..

theorem settings_actCountDown (s : State) (n : LineNo) : SameSettings n s (s.actCountDown n).1 := by
  unfold State.actCountDown
  split
  · exact .refl n s
  · exact (settings_modRun ..).trans (settings_mark _ n n)

theorem settings_act (s : State) (n : LineNo) : SameSettings n s (s.act n).1 := by
  unfold State.act
  split
  · exact .refl n s
  · exact .refl n s
  · exact .refl n s
  · exact settings_actBreak ..
  · exact settings_actPulse ..
  · exact settings_actDrive ..
  · exact settings_actDrive ..
  · exact settings_setPeriod ..
  · exact settings_actDetect ..
  · exact settings_actArm ..
  · exact (settings_modRun ..).trans (settings_raise _ n n _)
  · exact (settings_modRun ..).trans (settings_mark _ n n)
  · exact settings_actCountDown ..

/-! ## The steps (R106, R114, R121) -/

theorem settings_endStep (s : State) (n : LineNo) (exit : TrailExit) (immediate : Bool) :
    SameSettings n s (s.endStep n exit immediate).1 := by
  by_cases step : ((s.step n).exit exit).kind = 0
  · by_cases below : (s.line n).run.countAfter immediate < 64
    · rw [endStep_step step below]
      exact settings_noteStep ..
    · rw [endStep_runaway step (Nat.not_lt.1 below)]
      exact (settings_noteStep ..).trans (settings_endRun ..)
  · rw [endStep_end step]
    exact (settings_noteStep ..).trans (settings_endRun ..)

theorem settings_armWait (s : State) (n : LineNo) : SameSettings n s (s.armWait n) :=
  (settings_modLine rfl).trans (settings_mark _ n n)

theorem settings_startStep (s : State) (n : LineNo) (k : Nat) : SameSettings n s (s.startStep n k) :=
  (settings_modRun ..).trans ((settings_modRun ..).trans (settings_mark _ n n))

theorem settings_afterAct (s : State) (n : LineNo) (b : Begun) (immediate : Bool) :
    SameSettings n s (s.afterAct n b immediate).1 := by
  unfold State.afterAct
  split
  · exact .refl n s
  · exact (settings_modRun ..).trans (settings_endStep ..)
  · have armed := settings_armWait s n
    dsimp only
    split
    · exact armed.trans (settings_endStep ..)
    · exact armed

theorem settings_beginAct (s : State) (n : LineNo) : SameSettings n s (s.beginAct n).1 :=
  (settings_modRun s n _).trans ((settings_act _ n).trans (settings_afterAct _ n _ true))

theorem settings_runSteps (fuel : Nat) (n : LineNo) (p : State × Option Nat) :
    SameSettings n p.1 (State.runSteps fuel n p) := by
  induction fuel generalizing p with
  | zero => exact .refl n _
  | succ fuel ih =>
    obtain ⟨s, next⟩ := p
    cases next with
    | none => exact .refl n _
    | some k => exact ((settings_startStep s n k).trans (settings_beginAct _ n)).trans (ih _)

/-! ## The end of an action and of a detection (R40, R121) -/

theorem settings_actionEnded (s : State) (n : LineNo) (a : Action) (failed : Option FailureReason) :
    SameSettings n s (s.actionEnded n a failed) := by
  unfold State.actionEnded
  refine SameSettings.gated (SameSettings.ite ?_ ?_)
  · exact (settings_afterAct ..).trans (settings_runSteps stepFuel n _)
  · exact (settings_modRun ..).trans (settings_mark _ n n)

theorem settings_concludeDetection (s : State) (n : LineNo) (o : DetectOutcome) :
    SameSettings n s (s.concludeDetection n o) :=
  SameSettings.ite ((settings_endDetection ..).trans (settings_actionEnded ..)) (settings_endDetection ..)

end

end Sys2Proof.Machine
end

section
/-! O17. A character reaches the consumers of its line (R12, R13, R37, R47, R53, R115 to R118). -/

namespace Sys2Proof.Machine

section
variable {s t u v : State} {n : LineNo} {l k : Line} {r : Reports} {c : Byte} {f : Frame} {rises : Bool}

/-! ## The line as it takes a character -/

/-- The line whose frame has ended and whose FIFO has taken the character. -/
def Line.joined (l : Line) (c : Byte) : Line := { l with frame := none, cap := { l.cap with fifo := l.cap.fifo ++ [c] } }

/-- The line whose history has taken the character as well (R47). -/
def Line.joinedGood (l : Line) (c : Byte) : Line := { l.joined c with
  history := (l.history ++ [c]).drop (l.history.length + 1 - 24)
  scriptFresh := min 24 (l.scriptFresh + 1), trigFresh := min 24 (l.trigFresh + 1) }

/-- The line whose character was errored (R14, R51). -/
def Line.joinedBad (l : Line) (c : Byte) : Line := { l.joined c with
  garble := min 65535 (l.garble + 1), scriptFresh := 0, trigFresh := 0 }

/-- The reports after an errored character: the garble count saturates (R14). -/
def State.garbled (s : State) (n : LineNo) : Reports :=
  if (s.line n).garble = 65535 then s.reports else (s.mark n).reports

theorem enterHistory_eq (l : Line) (c : Byte) : l.enterHistory c = { l with
    history := (l.history ++ [c]).drop (l.history.length + 1 - 24)
    scriptFresh := min 24 (l.scriptFresh + 1), trigFresh := min 24 (l.trigFresh + 1) } := by
  unfold Line.enterHistory pushHistory newest
  rw [List.length_append, List.length_singleton]
  rfl

/-- The state as the frame of a line has ended (R12). -/
def State.unframed (s : State) (n : LineNo) : State := s.modLine n fun l => { l with frame := none }

theorem becomes_unframed (s : State) (n : LineNo) :
    LineBecomes n s (s.unframed n) { s.line n with frame := none } s.reports := becomes_modLine n s _

/-- A FIFO with space that no trigger closes takes the character (R62). -/
theorem becomes_offered (open_ : (s.line n).cap.trigger = .off ∨ (s.line n).cap.trigger = .armed)
    (room : (s.line n).cap.fifo.length < 64) (c : Byte) :
    LineBecomes n s ((s.unframed n).offer n c) ((s.line n).joined c) s.reports := by
  have ended := becomes_unframed s n
  have accepts : (s.line n).cap.offer = .accepted := by
    refine offer_joins ?_ room
    rintro (frozen | ⟨counting, -⟩)
    · rw [frozen] at open_
      exact open_.elim nofun nofun
    · rw [counting] at open_
      exact open_.elim nofun nofun
  have joins := (offer_cases (s.unframed n) n c).2.2
  rw [ended.line, ended.reports] at joins
  exact ended.trans (joins accepts)

/-- What has entered: the FIFO and, by the character's kind, the history or the garble count (R13, R14, R47). -/
theorem becomes_entered (open_ : (s.line n).cap.trigger = .off ∨ (s.line n).cap.trigger = .armed)
    (room : (s.line n).cap.fifo.length < 64) (c : Byte) :
    ((s.line n).eligible c = true →
      LineBecomes n s ((s.unframed n).entered n c false) ((s.line n).joinedGood c) s.reports) ∧
    ((s.line n).eligible c = false →
      LineBecomes n s ((s.unframed n).entered n c false) ((s.line n).joined c) s.reports) ∧
    LineBecomes n s ((s.unframed n).entered n c true) ((s.line n).joinedBad c) (s.garbled n) := by
  have joined := becomes_offered open_ room c
  have line := (becomes_unframed s n).line
  have same : ((s.unframed n).line n).eligible c = (s.line n).eligible c := by
    rw [line]
    rfl
  refine ⟨fun eligible => ?_, fun other => ?_, ?_⟩
  · have enters : (s.unframed n).entered n c false = ((s.unframed n).offer n c).modLine n fun l => l.enterHistory c := by
      unfold State.entered
      rw [same, eligible]
      rfl
    rw [enters]
    exact (joined.modLine _).as_line (enterHistory_eq ..)
  · have stays : (s.unframed n).entered n c false = (s.unframed n).offer n c := by
      unfold State.entered
      rw [same, other]
      rfl
    rw [stays]
    exact joined
  · have counted := (becomes_markIf n ((s.unframed n).offer n c)
      (fun l => { l.clearFresh with garble := satAdd 65535 l.garble 1 }) ((s.line n).garble != 65535))
    rw [joined.line] at counted
    have garble : ((s.unframed n).line n).garble = (s.line n).garble := by rw [line]
    have counts : (s.unframed n).entered n c true = (((s.unframed n).offer n c).modLine n fun l =>
        { l.clearFresh with garble := satAdd 65535 l.garble 1 }).markIf n ((s.line n).garble != 65535) := by
      unfold State.entered
      rw [garble]
      rfl
    rw [counts]
    refine (joined.trans counted).as rfl ?_
    unfold State.garbled
    by_cases most : (s.line n).garble = 65535
    · rw [if_pos most, most]
      exact joined.reports
    · rw [if_neg most, bne_iff_ne.2 most]
      exact (joined.mark).reports

theorem eligible_good (flow : l.settings.flow = .none) (nonzero : c ≠ 0x00) : l.eligible c = true := by
  unfold Line.eligible
  rw [flow, bne_iff_ne.2 nonzero]
  rfl

theorem eligible_nul (l : Line) : l.eligible 0x00 = false := rfl

theorem eligible_flow (flow : l.settings.flow = .xonxoff) (acts : c = 0x11 ∨ c = 0x13) : l.eligible c = false := by
  unfold Line.eligible
  rw [flow]
  rcases acts with rfl | rfl <;> rfl

/-! ## The trigger, the Rate Finder and the flow hold, where they do nothing (log 18) -/

theorem modLine_same (s : State) (n : LineNo) : (s.modLine n fun _ => s.line n) = s := by
  have lines : s.lines.set n.val (s.lines.get n) n.isLt = s.lines := by
    ext i h
    rw [Vector.getElem_set]
    split
    next same => subst same; rfl
    · rfl
  unfold State.modLine State.setLine State.line
  rw [lines]

theorem flowCharacter_none (flow : (s.line n).settings.flow = .none) (c : Byte) : s.flowCharacter n c = s := by
  unfold State.flowCharacter
  have other : ¬(s.line n).settings.flow = .xonxoff := by rw [flow]; exact nofun
  simp only [if_neg other]
  rw [bne_self_eq_false, modLine_same]
  rfl

theorem triggerTakes_false (s : State) (n : LineNo) : s.triggerTakes n false = s := rfl

theorem triggerMatches_off (off : (s.line n).cap.trigger = .off) : (s.line n).triggerMatches = false := by
  unfold Line.triggerMatches
  rw [off]
  rfl

theorem triggerMatches_armed {p : Pattern} (armed : l.cap.trigger = .armed) (pattern : l.cap.pattern = some p) :
    l.triggerMatches = p.matches l.trigFresh l.history := by
  unfold Line.triggerMatches
  rw [armed, pattern]
  rfl

theorem triggerTakes_none (misses : (s.line n).triggerMatches = false) (e : Bool) : s.triggerTakes n e = s := by
  unfold State.triggerTakes
  rw [misses, Bool.and_false]
  rfl

theorem verifyCharacter_none {counted : Bool} (idle : (s.line n).det.state ≠ .verifying ∨ counted = false) (errored : Bool) :
    s.verifyCharacter n counted errored = s := by
  unfold State.verifyCharacter
  refine if_neg fun both => ?_
  obtain ⟨verifying, counts⟩ := both
  exact idle.elim (fun other => other verifying) fun not => Bool.noConfusion (not.symm.trans counts)

/-- An errored character, or one on a line with Flow NONE, leaves the flow hold. -/
theorem consumed_verify (misses : (s.line n).triggerMatches = false) (counted e : Bool) (c : Byte) :
    s.consumed n c true counted e = s.verifyCharacter n counted true ∧
    s.consumed n c false counted e = (s.verifyCharacter n counted false).flowCharacter n c := by
  unfold State.consumed
  rw [triggerTakes_none misses]
  exact ⟨rfl, rfl⟩

theorem consumed_same (misses : (s.line n).triggerMatches = false) {counted : Bool}
    (idle : (s.line n).det.state ≠ .verifying ∨ counted = false) (e : Bool) (c : Byte) :
    s.consumed n c true counted e = s ∧
    ((s.line n).settings.flow = .none → s.consumed n c false counted e = s) := by
  obtain ⟨bad, good⟩ := consumed_verify misses counted e c
  rw [verifyCharacter_none idle] at bad good
  exact ⟨bad, fun flow => good.trans (flowCharacter_none flow c)⟩

/-! ## The delivery (R13) -/

/-- A character is delivered to a line whose runner is not WAITING. -/
theorem deliver_free (free : (s.line n).run.state ≠ .waiting) (c : Byte) (errored counted : Bool) :
    (s.unframed n).deliver n c errored counted =
      ((s.unframed n).entered n c errored).consumed n c errored counted (!errored && (s.line n).eligible c) := by
  have line := (becomes_unframed s n).line
  have run : ((s.unframed n).line n).run.state = (s.line n).run.state := by rw [line]
  have eligible : ((s.unframed n).line n).eligible c = (s.line n).eligible c := by
    rw [line]
    rfl
  rw [deliver_eq]
  dsimp only
  rw [run, eligible, if_neg free]

/-- A character is delivered to a line whose runner is WAITING. -/
theorem deliver_waiting (waiting : (s.line n).run.state = .waiting) (c : Byte) (errored counted : Bool) :
    (s.unframed n).deliver n c errored counted =
      (((s.unframed n).entered n c errored).consumed n c errored counted (!errored && (s.line n).eligible c)).runnerCharacter
        n (if (!errored && (s.line n).eligible c) = true then ((s.unframed n).entered n c errored).scriptMatch n
          else .nothing) (!errored && (s.line n).eligible c) := by
  have line := (becomes_unframed s n).line
  have run : ((s.unframed n).line n).run.state = (s.line n).run.state := by rw [line]
  have eligible : ((s.unframed n).line n).eligible c = (s.line n).eligible c := by
    rw [line]
    rfl
  rw [deliver_eq]
  dsimp only
  rw [run, eligible, if_pos waiting]

/-- The stop sample's judgement (R12). -/
theorem exec_characterDelivered (on : (s.line n).status = .on) (frame : (s.line n).frame = some f)
    (checked : f.checked = true) :
    let judged := f.judge (f.samplesNow (f.sampleCount - 1) (s.line n).rxd rises)
    (judged = .withheld → exec (.characterDelivered ⟨n, rises⟩) s =
      .next ((s.unframed n).modLine n fun l => { l with runWithheld := l.runWithheld || f.unbroken })) ∧
    (∀ c, judged = .good c → exec (.characterDelivered ⟨n, rises⟩) s =
      .next ((s.unframed n).deliver n c false f.counted).settlePort) ∧
    (∀ c, judged = .errored c → exec (.characterDelivered ⟨n, rises⟩) s =
      .next ((s.unframed n).deliver n c true f.counted).settlePort) := by
  intro judged
  have row : exec (.characterDelivered ⟨n, rises⟩) s =
      (match judged with
      | .withheld => .next ((s.unframed n).modLine n fun l => { l with runWithheld := l.runWithheld || f.unbroken })
      | .errored c => .next ((s.unframed n).deliver n c true f.counted).settlePort
      | .good c => .next ((s.unframed n).deliver n c false f.counted).settlePort) := by
    change execCharacterDelivered ⟨n, rises⟩ s = _
    unfold execCharacterDelivered
    dsimp only
    rw [frame]
    dsimp only
    rw [if_pos ⟨on, checked⟩]
    rfl
  refine ⟨fun is => ?_, fun c is => ?_, fun c is => ?_⟩ <;> rw [row, is]

end

end Sys2Proof.Machine
end

section
/-! O17, continued. The WAITING runner and the verifying Rate Finder take a character (R37, R115 to R118). -/

namespace Sys2Proof.Machine

section
variable {s t u v : State} {n : LineNo} {l k : Line} {r : Reports} {c : Byte} {f : Frame} {rises : Bool}

/-! ## The WAITING runner (R115 to R118) -/

/-- The pattern of the step in progress with an index matches the line's history. -/
def State.hit (s : State) (n : LineNo) (k : Line) (i : Byte) : Bool :=
  (Pattern.ofRecord (s.pattern n i)).matches k.scriptFresh k.history

theorem scriptMatch_waiting (becomes : LineBecomes n s v k r) (run : k.run = (s.line n).run)
    (waiting : (s.line n).run.state = .waiting) {w : Wait} (is : (s.step n).wait = w.code) :
    v.scriptMatch n = scriptJudge (some w) (s.line n).run.phase (s.hit n k (s.step n).patternA)
      (s.hit n k (s.step n).patternB) := by
  have same : (v.line n).run = (s.line n).run := by rw [becomes.line, run]
  have wait : v.wait n = some w := (wait_of_run becomes.store same).trans (wait_iff.2 is)
  unfold State.scriptMatch
  dsimp only
  rw [same, if_pos waiting, wait, step_of_run becomes.store same, pattern_of_run becomes.store same,
    pattern_of_run becomes.store same, becomes.line]
  rfl

theorem wait_becomes (becomes : LineBecomes n s v k r) (run : k.run = (s.line n).run) : v.wait n = s.wait n :=
  wait_of_run becomes.store (by rw [becomes.line, run])

/-- The state whose runner has started QUIET's timer again (R116). -/
def State.quieted (v : State) (n : LineNo) (arg : Nat) : State :=
  v.modRun n fun r => { r with waitTimer := some (max 1 (min 60000 arg) + 1) }

/-- A NUL or an errored character starts QUIET's timer again and does nothing else (R116). -/
theorem runner_ineligible (becomes : LineBecomes n s v k r) (run : k.run = (s.line n).run) :
    ((s.step n).wait = 4 → v.runnerCharacter n .nothing false = v.quieted n (s.step n).waitArg.toNat) ∧
    ((s.step n).wait ≠ 4 → v.runnerCharacter n .nothing false = v) := by
  have wait := wait_becomes becomes run
  have step : v.step n = s.step n := step_of_run becomes.store (by rw [becomes.line, run])
  refine ⟨fun is => ?_, fun other => ?_⟩
  · unfold State.runnerCharacter State.quieted
    rw [wait.trans ((wait_iff (w := .quiet)).2 is), step, ← quietTime_eq]
    rfl
  · unfold State.runnerCharacter
    dsimp only
    split
    next => rfl
    next => rfl
    next => rfl
    next is => exact absurd (wait_iff.1 (wait.symm.trans is)) other
    next => rfl
    next => rfl

/-- A good character other than NUL at each wait (R115 to R118). -/
theorem runner_matches (becomes : LineBecomes n s v k r) (run : k.run = (s.line n).run)
    (waiting : (s.line n).run.state = .waiting) :
    let st := s.step n
    let a := s.hit n k st.patternA
    let b := s.hit n k st.patternB
    let w := v.runnerCharacter n (v.scriptMatch n) true
    (st.wait = 1 → (a = true → w = v.exitStep n .success) ∧ (a = false → w = v)) ∧
    (st.wait = 2 → (a = true → w = v.exitStep n .success) ∧ (a = false → b = true → w = v.exitStep n .alternate) ∧
      (a = false → b = false → w = v)) ∧
    (st.wait = 3 → (s.line n).run.phase = .a →
      (a = true → w = (v.modLine n fun l => { l with scriptFresh := 0, run := { l.run with phase := .b } }).mark n) ∧
      (a = false → w = v)) ∧
    (st.wait = 3 → (s.line n).run.phase = .b → (b = true → w = v.exitStep n .success) ∧ (b = false → w = v)) := by
  intro st a b w
  have wait := wait_becomes becomes run
  have takes : w = v.runnerCharacter n (v.scriptMatch n) true := rfl
  have judged := fun (x : Wait) (is : st.wait = x.code) => scriptMatch_waiting becomes run waiting is
  have at_ := fun (x : Wait) (is : st.wait = x.code) => wait.trans (wait_iff.2 is)
  unfold State.runnerCharacter at takes
  dsimp only at takes
  refine ⟨fun is => ?_, fun is => ?_, fun is phase => ?_, fun is phase => ?_⟩
  · rw [at_ .match_ is, judged .match_ is] at takes
    change w = if (if a = true then ScriptMatch.a else .nothing) = .a then _ else _ at takes
    refine ⟨fun hit => ?_, fun miss => ?_⟩
    · rw [hit] at takes; exact takes
    · rw [miss] at takes; exact takes
  · rw [at_ .matchEither is, judged .matchEither is] at takes
    have answer : scriptJudge (some .matchEither) (s.line n).run.phase (s.hit n k st.patternA) (s.hit n k st.patternB) =
      if a = true then .a else if b = true then .b else .nothing := rfl
    rw [answer] at takes
    refine ⟨fun hit => ?_, fun miss hit => ?_, fun miss miss' => ?_⟩
    · rw [hit] at takes; exact takes
    · rw [miss, hit] at takes; exact takes
    · rw [miss, miss'] at takes; exact takes
  · rw [at_ .matchThen is, judged .matchThen is, phase] at takes
    have answer : scriptJudge (some .matchThen) .a (s.hit n k st.patternA) (s.hit n k st.patternB) =
      if a = true then .a else .nothing := rfl
    rw [answer] at takes
    refine ⟨fun hit => ?_, fun miss => ?_⟩
    · rw [hit] at takes; exact takes
    · rw [miss] at takes; exact takes
  · rw [at_ .matchThen is, judged .matchThen is, phase] at takes
    have answer : scriptJudge (some .matchThen) .b (s.hit n k st.patternA) (s.hit n k st.patternB) =
      if b = true then .b else .nothing := rfl
    rw [answer] at takes
    refine ⟨fun hit => ?_, fun miss => ?_⟩
    · rw [hit] at takes; exact takes
    · rw [miss] at takes; exact takes

/-- The state whose runner has counted a character down (R118). -/
def State.countedDown (v : State) (n : LineNo) : State := v.modRun n fun r => { r with countLeft := r.countLeft - 1 }

theorem runner_counts (becomes : LineBecomes n s v k r) (run : k.run = (s.line n).run) (m : ScriptMatch) :
    ((s.step n).wait = 4 → v.runnerCharacter n m true = v.quieted n (s.step n).waitArg.toNat) ∧
    ((s.step n).wait = 5 →
      ((s.line n).run.countLeft ≤ 1 → v.runnerCharacter n m true = (v.countedDown n).exitStep n .success) ∧
      (1 < (s.line n).run.countLeft → v.runnerCharacter n m true = v.countedDown n)) ∧
    ((s.step n).wait = 0 ∨ (s.step n).wait = 6 ∨ (s.step n).wait = 7 ∨ (s.step n).wait = 8 →
      v.runnerCharacter n m true = v) := by
  have wait := wait_becomes becomes run
  have step : v.step n = s.step n := step_of_run becomes.store (by rw [becomes.line, run])
  have at_ := fun (x : Wait) (is : (s.step n).wait = x.code) => wait.trans (wait_iff.2 is)
  refine ⟨fun is => ?_, fun is => ?_, fun is => ?_⟩
  · unfold State.runnerCharacter State.quieted
    rw [at_ .quiet is, step, ← quietTime_eq]
    rfl
  · have left : ((v.countedDown n).line n).run.countLeft = (s.line n).run.countLeft - 1 := by
      rw [State.countedDown, line_modRun_self, becomes.line, run]
    have takes : v.runnerCharacter n m true =
        if ((v.countedDown n).line n).run.countLeft = 0 then (v.countedDown n).exitStep n .success else v.countedDown n := by
      unfold State.runnerCharacter
      rw [at_ .count is]
      rfl
    rw [takes, left]
    exact ⟨fun last => if_pos (by omega), fun more => if_neg (by omega)⟩
  · unfold State.runnerCharacter
    rcases is with is | is | is | is
    · rw [at_ .none is]
    · rw [at_ .elapse is]
    · rw [at_ .marking is]
    · rw [at_ .spacing is]

/-! ## The verifying Rate Finder (R37, R38) -/

theorem verify_good {counted : Bool} (verifying : (v.line n).det.state = .verifying) (counts : counted = true) :
    ((v.line n).det.verified < 3 → v.verifyCharacter n counted false =
      v.modDet n fun d => { d with verified := d.verified + 1 }) ∧
    (3 ≤ (v.line n).det.verified → v.verifyCharacter n counted false =
      (v.modDet n fun d => { d with verified := d.verified + 1 }).concludeDetection n .settled) := by
  have takes : v.verifyCharacter n counted false =
      if 4 ≤ (v.line n).det.verified + 1 then
        (v.modDet n fun d => { d with verified := d.verified + 1 }).concludeDetection n .settled
      else v.modDet n fun d => { d with verified := d.verified + 1 } := if_pos ⟨verifying, counts⟩
  rw [takes]
  exact ⟨fun few => if_neg (by omega), fun last => if_pos (by omega)⟩

/-- The detection whose adopted entry an errored character strikes off (R37). -/
def Detection.struck (d : Detection) : Detection := { d with
  rejected := match d.adoption with | .entry e => d.rejected ||| BitVec.ofNat 12 (2 ^ e.val) | _ => d.rejected }

theorem verify_bad {counted : Bool} (verifying : (v.line n).det.state = .verifying) (counts : counted = true) :
    v.verifyCharacter n counted true = (v.modDet n Detection.struck).failAttempt n := if_pos ⟨verifying, counts⟩

end

end Sys2Proof.Machine
end

section
/-! O17, concluded. The statements of the delivery, put together. -/

namespace Sys2Proof.Machine

section
variable {s t u v : State} {n : LineNo} {l k : Line} {r : Reports} {c : Byte} {f : Frame} {rises : Bool}

/-- A character is delivered to a line whose runner is not WAITING, whose trigger takes nothing, whose rate is not
verified with it and whose Flow, for a good one, is NONE: nothing follows its entering. -/
theorem delivered_quiet (free : (s.line n).run.state ≠ .waiting) {counted : Bool}
    (idle : (s.line n).det.state ≠ .verifying ∨ counted = false) (errored : Bool)
    (flow : errored = false → (s.line n).settings.flow = .none)
    (becomes : LineBecomes n s ((s.unframed n).entered n c errored) k r) (trigger : k.triggerMatches = false)
    (det : k.det = (s.line n).det) (settings : k.settings = (s.line n).settings) :
    LineBecomes n s ((s.unframed n).deliver n c errored counted) k r := by
  rw [deliver_free free]
  have line := becomes.line
  generalize (s.unframed n).entered n c errored = v at *
  obtain ⟨bad, good⟩ := consumed_same (s := v) (n := n) (by rw [line]; exact trigger) (counted := counted)
    (by rw [line, det]; exact idle) (!errored && (s.line n).eligible c) c
  cases errored with
  | true => rw [bad]; exact becomes
  | false =>
    rw [good (by rw [line, settings]; exact flow rfl)]
    exact becomes

/-- To a line whose runner is WAITING: the runner takes it, and nothing else. -/
theorem delivered_waiting (waiting : (s.line n).run.state = .waiting) {counted : Bool}
    (idle : (s.line n).det.state ≠ .verifying) (errored : Bool) (flow : (s.line n).settings.flow = .none)
    (becomes : LineBecomes n s ((s.unframed n).entered n c errored) k r) (trigger : k.cap.trigger = .off)
    (det : k.det = (s.line n).det) (settings : k.settings = (s.line n).settings) :
    (s.unframed n).deliver n c errored counted = ((s.unframed n).entered n c errored).runnerCharacter n
      (if (!errored && (s.line n).eligible c) = true then ((s.unframed n).entered n c errored).scriptMatch n else .nothing)
      (!errored && (s.line n).eligible c) := by
  rw [deliver_waiting waiting]
  have line := becomes.line
  generalize (s.unframed n).entered n c errored = v at *
  obtain ⟨bad, good⟩ := consumed_same (s := v) (n := n) (triggerMatches_off (by rw [line]; exact trigger))
    (counted := counted) (.inl (by rw [line, det]; exact idle)) (!errored && (s.line n).eligible c) c
  cases errored with
  | true => rw [bad]
  | false => rw [good (by rw [line, settings]; exact flow)]

theorem joined_off (off : l.cap.trigger = .off) (c : Byte) : (l.joined c).triggerMatches = false := by
  unfold Line.triggerMatches
  rw [show (l.joined c).cap.trigger = .off from off]
  rfl

theorem joinedGood_off (off : l.cap.trigger = .off) (c : Byte) : (l.joinedGood c).triggerMatches = false := by
  unfold Line.triggerMatches
  rw [show (l.joinedGood c).cap.trigger = .off from off]
  rfl

theorem joinedBad_off (off : l.cap.trigger = .off) (c : Byte) : (l.joinedBad c).triggerMatches = false := by
  unfold Line.triggerMatches
  rw [show (l.joinedBad c).cap.trigger = .off from off]
  rfl

/-- The entering, for the kinds of character. -/
theorem entered_kinds (open_ : (s.line n).cap.trigger = .off ∨ (s.line n).cap.trigger = .armed)
    (room : (s.line n).cap.fifo.length < 64) :
    (∀ c, (s.line n).settings.flow = .none → c ≠ 0x00 →
      LineBecomes n s ((s.unframed n).entered n c false) ((s.line n).joinedGood c) s.reports) ∧
    LineBecomes n s ((s.unframed n).entered n 0x00 false) ((s.line n).joined 0x00) s.reports ∧
    ∀ c, LineBecomes n s ((s.unframed n).entered n c true) ((s.line n).joinedBad c) (s.garbled n) :=
  ⟨fun c flow nonzero => (becomes_entered open_ room c).1 (eligible_good flow nonzero),
    (becomes_entered open_ room 0x00).2.1 (eligible_nul _), fun c => (becomes_entered open_ room c).2.2⟩

/-! ## The consumers that act (R37, R53, R17) -/

/-- An ARMED trigger judges a good character (R53, R74). -/
theorem delivered_armed (free : (s.line n).run.state ≠ .waiting) (flow : (s.line n).settings.flow = .none)
    (idle : (s.line n).det.state ≠ .verifying) (armed : (s.line n).cap.trigger = .armed) {p : Pattern}
    (pattern : (s.line n).cap.pattern = some p) (room : (s.line n).cap.fifo.length < 64) (nonzero : c ≠ 0x00)
    (counted : Bool) :
    let good := (s.line n).joinedGood c
    (p.matches good.trigFresh good.history = true → LineBecomes n s ((s.unframed n).deliver n c false counted)
      { good with cap := { good.cap with
        trigger := .counting, lead := (s.line n).cap.fifo.length + 1, remaining := (s.line n).cap.post
        matchTime := s.clock.ms } } (s.mark n).reports) ∧
    (p.matches good.trigFresh good.history = false →
      LineBecomes n s ((s.unframed n).deliver n c false counted) good s.reports) := by
  intro good
  have entered := (entered_kinds (.inr armed) room).1 c flow nonzero
  have judged : good.triggerMatches = p.matches good.trigFresh good.history :=
    triggerMatches_armed (l := good) armed pattern
  refine ⟨fun hit => ?_, fun miss => ?_⟩
  · rw [deliver_free free]
    have line := entered.line
    have now := entered.now
    generalize (s.unframed n).entered n c false = v at *
    have takes : v.triggerTakes n (!false && (s.line n).eligible c) = v.triggerMatched n := by
      refine if_pos ?_
      rw [eligible_good flow nonzero, line, judged.trans hit]
      rfl
    have counting := becomes_mark n v fun l => { l with cap := { l.cap with
      trigger := .counting, lead := l.cap.fifo.length, remaining := l.cap.post, matchTime := v.now } }
    change LineBecomes n v (v.triggerMatched n) _ _ at counting
    rw [line, now] at counting
    have matched : LineBecomes n s (v.triggerMatched n) { good with cap := { good.cap with
        trigger := .counting, lead := good.cap.fifo.length, remaining := good.cap.post, matchTime := s.now } }
        (s.mark n).reports := (entered.trans counting).as rfl entered.mark.reports
    have line' := matched.line
    have nothing : v.consumed n c false counted (!false && (s.line n).eligible c) = v.triggerMatched n := by
      unfold State.consumed
      rw [takes]
      generalize v.triggerMatched n = w at *
      rw [verifyCharacter_none (.inl (by rw [line']; exact idle))]
      exact flowCharacter_none (by rw [line']; exact flow) c
    rw [nothing]
    refine matched.as_line ?_
    have one : good.cap.fifo.length = (s.line n).cap.fifo.length + 1 := by
      change ((s.line n).cap.fifo ++ [c]).length = _
      rw [List.length_append, List.length_singleton]
    rw [one]
    rfl
  · exact delivered_quiet free (.inl idle) false (fun _ => flow) entered (judged.trans miss) rfl rfl

/-- A counted good character reaches a VERIFYING Rate Finder (R37). -/
theorem delivered_verified (free : (s.line n).run.state ≠ .waiting) (flow : (s.line n).settings.flow = .none)
    (verifying : (s.line n).det.state = .verifying) (off : (s.line n).cap.trigger = .off)
    (room : (s.line n).cap.fifo.length < 64) (nonzero : c ≠ 0x00) {counted : Bool} (counts : counted = true) :
    let d := (s.line n).det
    let verified : Line := { (s.line n).joinedGood c with det := { d with verified := d.verified + 1 } }
    (d.verified < 3 → LineBecomes n s ((s.unframed n).deliver n c false counted) verified s.reports) ∧
    (3 ≤ d.verified → ∃ v : State, LineBecomes n s v verified s.reports ∧
      (s.unframed n).deliver n c false counted = v.concludeDetection n .settled) := by
  intro d verified
  have entered := (entered_kinds (.inl off) room).1 c flow nonzero
  rw [deliver_free free]
  have line := entered.line
  generalize (s.unframed n).entered n c false = v at *
  obtain ⟨-, takes⟩ := consumed_verify (s := v) (n := n) (by rw [line]; exact joinedGood_off off c) counted
    (!false && (s.line n).eligible c) c
  have det : (v.line n).det = d := by rw [line]; rfl
  obtain ⟨few, last⟩ := verify_good (v := v) (n := n) (by rw [det]; exact verifying) counts
  have counted' : LineBecomes n s (v.modDet n fun d => { d with verified := d.verified + 1 }) verified s.reports :=
    entered.modLine fun l => { l with det := { l.det with verified := l.det.verified + 1 } }
  rw [takes]
  refine ⟨fun below => ?_, fun fourth => ⟨_, counted', ?_⟩⟩
  · rw [few (by rw [det]; exact below)]
    have line' := counted'.line
    generalize (v.modDet n fun d => { d with verified := d.verified + 1 }) = w at *
    rw [flowCharacter_none (by rw [line']; exact flow)]
    exact counted'
  · rw [last (by rw [det]; exact fourth)]
    have line' := counted'.line
    generalize (v.modDet n fun d => { d with verified := d.verified + 1 }) = w at *
    have settings : ((w.concludeDetection n .settled).line n).settings = (w.line n).settings :=
      settings_concludeDetection w n .settled
    exact flowCharacter_none (by rw [settings, line']; exact flow) c

/-- A counted errored character reaches a VERIFYING Rate Finder (R37, R38). -/
theorem delivered_struck (free : (s.line n).run.state ≠ .waiting) (verifying : (s.line n).det.state = .verifying)
    (off : (s.line n).cap.trigger = .off) (room : (s.line n).cap.fifo.length < 64) {counted : Bool}
    (counts : counted = true) (c : Byte) :
    ∃ v : State, LineBecomes n s v { (s.line n).joinedBad c with det := (s.line n).det.struck } (s.garbled n) ∧
      (s.unframed n).deliver n c true counted = v.failAttempt n := by
  have entered := (entered_kinds (.inl off) room).2.2 c
  rw [deliver_free free]
  have line := entered.line
  generalize (s.unframed n).entered n c true = v at *
  obtain ⟨takes, -⟩ := consumed_verify (s := v) (n := n) (by rw [line]; exact joinedBad_off off c) counted
    (!true && (s.line n).eligible c) c
  have det : (v.line n).det = (s.line n).det := by rw [line]; rfl
  refine ⟨v.modDet n Detection.struck, entered.modLine fun l => { l with det := l.det.struck }, ?_⟩
  rw [takes, verify_bad (by rw [det]; exact verifying) counts]

/-- A good XOFF or XON of an XONXOFF line acts on the flow hold and does not enter the history (R14, R17). -/
theorem delivered_flow (free : (s.line n).run.state ≠ .waiting) (flow : (s.line n).settings.flow = .xonxoff)
    (acts : c = 0x11 ∨ c = 0x13) (idle : (s.line n).det.state ≠ .verifying)
    (open_ : (s.line n).cap.trigger = .off ∨ (s.line n).cap.trigger = .armed)
    (room : (s.line n).cap.fifo.length < 64) (counted : Bool) :
    ∃ v : State, LineBecomes n s v ((s.line n).joined c) s.reports ∧
      (s.unframed n).deliver n c false counted = v.flowCharacter n c := by
  have eligible := eligible_flow flow acts
  have entered := (becomes_entered open_ room c).2.1 eligible
  rw [deliver_free free, eligible]
  have line := entered.line
  generalize (s.unframed n).entered n c false = v at *
  refine ⟨v, entered, ?_⟩
  unfold State.consumed
  rw [Bool.and_false, triggerTakes_false, verifyCharacter_none (.inl (by rw [line]; exact idle))]
  rfl

end

/-! ## The statement -/

/-- A character reaches a line none of whose other consumers acts. -/
theorem characterDelivered_quiet (n : LineNo) (rises : Bool) (f : Frame) (s : State)
    (on : (s.line n).status = .on) (frame : (s.line n).frame = some f) (checked : f.checked = true)
    (free : (s.line n).run.state ≠ .waiting) (idle : (s.line n).det.state ≠ .verifying ∨ f.counted = false)
    (off : (s.line n).cap.trigger = .off) (flow : (s.line n).settings.flow = .none)
    (room : (s.line n).cap.fifo.length < 64) :
    let cmd : Instr := .characterDelivered ⟨n, rises⟩
    let judged := f.judge (f.samplesNow (f.sampleCount - 1) (s.line n).rxd rises)
    (∀ c, judged = .good c → c ≠ 0x00 → ∃ u : State, exec cmd s = .next u.settlePort ∧
      LineBecomes n s u ((s.line n).joinedGood c) s.reports) ∧
    (judged = .good 0x00 → ∃ u : State, exec cmd s = .next u.settlePort ∧
      LineBecomes n s u ((s.line n).joined 0x00) s.reports) ∧
    (∀ c, judged = .errored c → ∃ u : State, exec cmd s = .next u.settlePort ∧
      LineBecomes n s u ((s.line n).joinedBad c) (s.garbled n)) := by
  intro cmd judged
  obtain ⟨-, good, errored⟩ := exec_characterDelivered (rises := rises) on frame checked
  obtain ⟨enters, nul, bad⟩ := entered_kinds (.inl off) room
  refine ⟨fun c is nonzero => ⟨_, good c is, ?_⟩, fun is => ⟨_, good _ is, ?_⟩, fun c is => ⟨_, errored c is, ?_⟩⟩
  · exact delivered_quiet free idle false (fun _ => flow) (enters c flow nonzero) (joinedGood_off off c) rfl rfl
  · exact delivered_quiet free idle false (fun _ => flow) nul (joined_off off _) rfl rfl
  · exact delivered_quiet free idle true nofun (bad c) (joinedBad_off off c) rfl rfl

/-- Settles O17: by the consumer that acts, each on the state as the character has entered the FIFO and the history. -/
theorem characterDelivered : Obligations.CharacterDelivered := by
  refine ⟨fun n rises f s => ?quiet, fun n rises f c s => ?waits, fun n rises f c s => ?acts⟩
  case quiet =>
    intro l cmd on frame checked free idle off flow room judged taken
    obtain ⟨withheld, -⟩ := exec_characterDelivered (rises := rises) on frame checked
    refine ⟨fun is => ⟨_, withheld is, ?_⟩,
      characterDelivered_quiet n rises f s on frame checked free (.inl idle) off flow room⟩
    exact (becomes_unframed s n).modLine fun l => { l with runWithheld := l.runWithheld || f.unbroken }
  case waits =>
    intro l r st cmd on frame checked waiting idle off flow room judged taken good bad marked garbled hit quiet stays ends
    obtain ⟨-, goodRow, badRow⟩ := exec_characterDelivered (rises := rises) on frame checked
    obtain ⟨enters, nul, errs⟩ := entered_kinds (.inl off) room
    have goodTakes := fun nonzero => delivered_waiting (counted := f.counted) waiting idle false flow
      (enters c flow nonzero) off rfl rfl
    have nulTakes := delivered_waiting (counted := f.counted) waiting idle false flow nul off rfl rfl
    have badTakes := delivered_waiting (counted := f.counted) waiting idle true flow (errs c) off rfl rfl
    rw [eligible_nul] at nulTakes
    refine ⟨fun is nonzero => ?_, fun is zero => ?_, fun is => ?_⟩
    · have entered := enters c flow nonzero
      have takes := goodTakes nonzero
      have row := goodRow c is
      rw [eligible_good flow nonzero] at takes
      rw [takes] at row
      generalize (s.unframed n).entered n c false = v at *
      obtain ⟨match_, either, thenA, thenB⟩ := runner_matches (k := good) entered rfl waiting
      obtain ⟨quiets, counts, others⟩ := runner_counts (k := good) entered rfl (v.scriptMatch n)
      have endsBy : ∀ {exit w}, LineBecomes n s w good s.reports →
          v.runnerCharacter n (v.scriptMatch n) true = w.exitStep n exit → ends good exit := fun becomes by_ =>
        ⟨_, becomes, row.trans (congrArg (fun x : State => Host.Outcome.next x.settlePort) by_)⟩
      have staysAs : ∀ {k q w}, LineBecomes n s w k q →
          v.runnerCharacter n (v.scriptMatch n) true = w → stays k q := fun becomes as_ =>
        ⟨_, row.trans (congrArg (fun x : State => Host.Outcome.next x.settlePort) as_), becomes⟩
      refine ⟨fun w => ⟨fun h => endsBy entered ((match_ w).1 h), fun h => staysAs entered ((match_ w).2 h)⟩,
        fun w => ⟨fun h => endsBy entered ((either w).1 h), fun h h' => endsBy entered ((either w).2.1 h h'),
          fun h h' => staysAs entered ((either w).2.2 h h')⟩,
        fun w p => ⟨fun h => staysAs ?_ ((thenA w p).1 h), fun h => staysAs entered ((thenA w p).2 h)⟩,
        fun w p => ⟨fun h => endsBy entered ((thenB w p).1 h), fun h => staysAs entered ((thenB w p).2 h)⟩,
        fun w => staysAs ?_ (quiets w), fun w => ⟨fun few => ?_, fun more => staysAs ?_ ((counts w).2 more)⟩,
        fun w => staysAs entered (others w)⟩
      · exact (entered.modLine fun l => { l with scriptFresh := 0, run := { l.run with phase := .b } }).mark
      · exact entered.modLine fun l => { l with run := { l.run with
          waitTimer := some (max 1 (min 60000 st.waitArg.toNat) + 1) } }
      · have none : r.countLeft - 1 = 0 := by omega
        have down : LineBecomes n s (v.countedDown n) { good with run := { r with countLeft := 0 } } s.reports := by
          rw [← none]
          exact entered.modLine fun l => { l with run := { l.run with countLeft := l.run.countLeft - 1 } }
        exact ⟨_, down, row.trans (congrArg (fun x : State => Host.Outcome.next x.settlePort) ((counts w).1 few))⟩
      · exact entered.modLine fun l => { l with run := { l.run with countLeft := l.run.countLeft - 1 } }
    · subst zero
      have row := goodRow _ is
      rw [nulTakes] at row
      generalize (s.unframed n).entered n 0x00 false = v at *
      obtain ⟨quiets, others⟩ := runner_ineligible (k := taken) nul rfl
      refine ⟨fun w => ⟨_, row.trans (congrArg (fun x : State => Host.Outcome.next x.settlePort) (quiets w)), ?_⟩,
        fun w => ⟨_, row.trans (congrArg (fun x : State => Host.Outcome.next x.settlePort) (others w)), nul⟩⟩
      exact nul.modLine fun l => { l with run := { l.run with
        waitTimer := some (max 1 (min 60000 st.waitArg.toNat) + 1) } }
    · have row := badRow c is
      rw [badTakes] at row
      have entered := errs c
      generalize (s.unframed n).entered n c true = v at *
      obtain ⟨quiets, others⟩ := runner_ineligible (k := bad) entered rfl
      refine ⟨fun w => ⟨_, row.trans (congrArg (fun x : State => Host.Outcome.next x.settlePort) (quiets w)), ?_⟩,
        fun w => ⟨_, row.trans (congrArg (fun x : State => Host.Outcome.next x.settlePort) (others w)), entered⟩⟩
      exact entered.modLine fun l => { l with run := { l.run with
        waitTimer := some (max 1 (min 60000 st.waitArg.toNat) + 1) } }
  case acts =>
    intro l d cmd on frame checked free room judged taken good bad garbled
    obtain ⟨-, goodRow, badRow⟩ := exec_characterDelivered (rises := rises) on frame checked
    refine ⟨fun p is nonzero flow idle armed pattern => ?_, fun flow off verifying counts => ⟨fun is nonzero => ?_,
      fun is => ?_⟩, fun flow off verifying late => ?_, fun is acts flow idle open_ => ?_⟩
    · obtain ⟨hit, miss⟩ := delivered_armed free flow idle armed pattern room nonzero f.counted
      exact ⟨fun h => ⟨_, goodRow c is, hit h⟩, fun h => ⟨_, goodRow c is, miss h⟩⟩
    · obtain ⟨few, last⟩ := delivered_verified free flow verifying off room nonzero counts
      refine ⟨fun below => ⟨_, goodRow c is, few below⟩, fun fourth => ?_⟩
      obtain ⟨v, becomes, concludes⟩ := last fourth
      exact ⟨v, becomes, (goodRow c is).trans (by rw [concludes])⟩
    · obtain ⟨v, becomes, fails⟩ := delivered_struck free verifying off room counts c
      exact ⟨v, becomes, (badRow c is).trans (by rw [fails])⟩
    · obtain ⟨enters, -, errs⟩ := characterDelivered_quiet n rises f s on frame checked free (.inr late) off flow room
      exact ⟨fun is nonzero => enters c is nonzero, fun is => errs c is⟩
    · obtain ⟨v, becomes, takes⟩ := delivered_flow free flow acts idle open_ room f.counted
      exact ⟨v, becomes, (goodRow c is).trans (by rw [takes])⟩

end Sys2Proof.Machine
end

section
/-! O39. The read of a line's record: its bytes, and what each part of it does (R143, R144, R147, R163, R68). -/

namespace Sys2Proof.Machine

section
variable {s t u v : State} {n : LineNo} {l k : Line} {r : Reports}

/-! ## Bytes and words -/

/-- A word read from bytes, little-endian. -/
theorem wordAt_toNat (bs : List Byte) (k : Nat) : (wordAt bs k).toNat = (byteAt bs k).toNat +
    2 ^ 8 * (byteAt bs (k + 1)).toNat + 2 ^ 16 * (byteAt bs (k + 2)).toNat + 2 ^ 24 * (byteAt bs (k + 3)).toNat := by
  unfold wordAt
  rw [BitVec.toNat_append, BitVec.toNat_append, BitVec.toNat_append, ← Nat.shiftLeft_add_eq_or_of_lt (BitVec.isLt _),
    ← Nat.shiftLeft_add_eq_or_of_lt (BitVec.isLt _), ← Nat.shiftLeft_add_eq_or_of_lt (BitVec.isLt _),
    Nat.shiftLeft_eq, Nat.shiftLeft_eq, Nat.shiftLeft_eq]
  omega

theorem anyClamped_iff (h : LineHost) : anyClamped h = true ↔
    (h.bitPeriod.toNat < 16 ∨ 131071 < h.bitPeriod.toNat) ∨ (h.fallback.toNat < 16 ∨ 131071 < h.fallback.toNat) ∨
    (h.tolerance.toNat < 5 ∨ 100 < h.tolerance.toNat) ∨ (h.detectLimit.toNat < 1000 ∨ 120000 < h.detectLimit.toNat) ∨
    (h.holdLimit.toNat < 0 ∨ 60000 < h.holdLimit.toNat) ∨ (h.charGap.toNat < 0 ∨ 255 < h.charGap.toNat) ∨
    (h.lineGap.toNat < 0 ∨ 2000 < h.lineGap.toNat) ∨ (h.absentTime.toNat < 100 ∨ 10000 < h.absentTime.toNat) := by
  unfold anyClamped numericFields
  simp only [List.any_cons, List.any_nil, Bool.or_eq_true, decide_eq_true_eq, Bool.or_false, or_assoc]

/-! ## Taken (R68, R70, R72) -/

/-- A judgement that sets no flag raises nothing; one that sets a flag raises its cause. -/
theorem raiseJudged_reports (t : State) (n : LineNo) (before after : Capture) :
    (after.lapped = before.lapped → (t.raiseJudged n before after).reports =
      (if before.half = false ∧ after.half = true then t.raise n .captureHalf else t).reports) ∧
    (after.half = before.half → (t.raiseJudged n before after).reports =
      (if before.lapped = false ∧ after.lapped = true then t.raise n .captureLapped else t).reports) := by
  unfold State.raiseJudged
  refine ⟨fun same => ?_, fun same => ?_⟩ <;> rw [same]
  · cases before.half <;> cases after.half <;> cases before.lapped <;> rfl
  · cases before.lapped <;> cases after.lapped <;> cases before.half <;> rfl

theorem raiseJudged_shared (t : State) (n : LineNo) (before after : Capture) :
    (t.raiseJudged n before after).shared = t.shared := by
  rw [State.raiseJudged, raiseIf_shared, raiseIf_shared]

theorem raiseJudged_line (t : State) (n m : LineNo) (before after : Capture) :
    (t.raiseJudged n before after).line m = t.line m := by
  rw [State.raiseJudged, line_raiseIf, line_raiseIf]

/-- Taken applied, but for the reports. -/
theorem becomes_applyTaken (s : State) (n : LineNo) (taken : Word) :
    let c := (s.line n).cap.applyTaken (s.line n).settings.captureMode (s.line n).settings.captureSize taken
    LineBecomes n s (s.applyTaken n taken) { s.line n with cap := c } (s.applyTaken n taken).reports ∧
    (s.applyTaken n taken).reports =
      (((s.modCap n fun _ => c).markIf n (c != (s.line n).cap)).raiseJudged n (s.line n).cap c).reports := by
  intro c
  have kept := becomes_markIf n s (fun l => { l with cap := c }) (c != (s.line n).cap)
  obtain ⟨line, -, others, shared⟩ := kept
  refine ⟨⟨(raiseJudged_line ..).trans line, rfl, fun m apart => (raiseJudged_line ..).trans (others m apart),
    (raiseJudged_shared ..).trans shared⟩, rfl⟩

/-- The reports of a change that the part section shows. -/
theorem changed_reports (s : State) (n : LineNo) (f : Line → Line) (c d : Capture) :
    ((s.modLine n f).markIf n (c != d)).reports = (if c = d then s else s.mark n).reports := by
  by_cases same : c = d
  · rw [if_pos same, same, bne_self_eq_false]
    rfl
  · rw [if_neg same, bne_iff_ne.2 same]
    rfl

/-- The causes of a changed capture state, as the statement writes them. -/
theorem judged_reports (s : State) (n : LineNo) (c : LineCause) (f : Line → Line) (a b : Capture) (raises : Prop)
    [Decidable raises] :
    (if raises then ((s.modLine n f).markIf n (a != b)).raise n c else (s.modLine n f).markIf n (a != b)).reports =
      (if raises then s.raise n c else if a = b then s else s.mark n).reports := by
  have changed := changed_reports s n f a b
  split
  · refine raise_after_mark c ?_
    rw [changed]
    split
    · exact .inl rfl
    · exact .inr rfl
  · exact changed

theorem applyTaken_hold (mode : (s.line n).settings.captureMode = .hold) (v : Word) :
    let c := (s.line n).cap
    let size := (s.line n).settings.captureSize
    let taken := if dist v c.head ≤ size then v else c.head - BitVec.ofNat 32 size
    let hold : Capture := { c with
      taken := taken, tail := (if c.trigger = .frozen then c.tail else taken)
      half := decide (size / 2 ≤ dist taken c.head) }
    LineBecomes n s (s.applyTaken n v) { s.line n with cap := hold }
      (if c.half = false ∧ hold.half = true then s.raise n .captureHalf else if hold = c then s else s.mark n).reports := by
  intro c size taken hold
  obtain ⟨becomes, reports⟩ := becomes_applyTaken s n v
  rw [mode] at becomes reports
  refine becomes.as rfl (reports.trans ?_)
  exact ((raiseJudged_reports ((s.modCap n fun _ => hold).markIf n (hold != c)) n c hold).1 rfl).trans
    (judged_reports s n .captureHalf (fun l => { l with cap := hold }) hold c _)

theorem applyTaken_roll (mode : (s.line n).settings.captureMode = .roll) (v : Word) :
    let c := (s.line n).cap
    let roll : Capture := { c with taken := v, lapped := decide (dist c.tail c.head < dist v c.head) }
    LineBecomes n s (s.applyTaken n v) { s.line n with cap := roll }
      (if c.lapped = false ∧ roll.lapped = true then s.raise n .captureLapped
        else if roll = c then s else s.mark n).reports := by
  intro c roll
  obtain ⟨becomes, reports⟩ := becomes_applyTaken s n v
  rw [mode] at becomes reports
  refine becomes.as rfl (reports.trans ?_)
  exact ((raiseJudged_reports ((s.modCap n fun _ => roll).markIf n (roll != c)) n c roll).2 rfl).trans
    (judged_reports s n .captureLapped (fun l => { l with cap := roll }) roll c _)

/-! ## Fill (R147) -/

theorem dist_self (w : Word) : dist w w = 0 := by
  unfold dist
  rw [BitVec.sub_self]
  rfl

theorem applyFill_eq (l : Line) (v : Word) : l.applyFill v = { l with
    fillSeen := (if l.settings.outboundSize < dist l.sent v then l.sent else v)
    staging := l.staging.take (max (if l.settings.outboundSize < dist l.sent v then 0 else dist l.sent v)
      (match l.tx with | .sending k => if k.source = .operator then 1 else 0 | _ => 0)) } := by
  unfold Line.applyFill Line.pendingLength Line.stagedInProgress
  dsimp only
  split
  · rw [dist_self, if_neg (Nat.not_lt_zero _)] <;> rfl
  · rfl

theorem applyFill_on (on : (s.line n).status = .on) (v : Word) :
    LineBecomes n s (s.applyFill n v) ((s.line n).applyFill v)
      (if ((s.line n).applyFill v).fillSeen = (s.line n).fillSeen then s else s.mark n).reports := by
  unfold State.applyFill
  dsimp only
  rw [if_pos on]
  refine (becomes_markIf n s (fun l => l.applyFill v) _).as rfl ?_
  by_cases same : ((s.line n).applyFill v).fillSeen = (s.line n).fillSeen
  · rw [if_pos same, same, bne_self_eq_false]
    rfl
  · rw [if_neg same, bne_iff_ne.2 same]
    rfl

theorem applyFill_off (off : (s.line n).status ≠ .on) (v : Word) : s.applyFill n v = s := if_neg off

/-! ## Claim (R144) -/

/-- The state as Claim has been taken, before an ON line acts on it. -/
def State.claimed (s : State) (n : LineNo) (claim : Bool) : State :=
  (s.modLine n fun l => { l with claim := claim, claimSeen := claim }).markIf n ((s.line n).claimSeen != claim)

theorem becomes_claimed (s : State) (n : LineNo) (claim : Bool) :
    LineBecomes n s (s.claimed n claim) { s.line n with claim := claim, claimSeen := claim }
      (if (s.line n).claimSeen = claim then s else s.mark n).reports := by
  refine (becomes_markIf n s (fun l => { l with claim := claim, claimSeen := claim }) _).as rfl ?_
  by_cases same : (s.line n).claimSeen = claim
  · rw [if_pos same, same, bne_self_eq_false]
    rfl
  · rw [if_neg same, bne_iff_ne.2 same]
    rfl

theorem applyClaim_cases (s : State) (n : LineNo) (claim wentOn : Bool) :
    let acts := (s.line n).status = .on ∧ ((s.line n).claim ≠ claim ∨ (wentOn = true ∧ claim = true))
    (∀ o, acts → claimOwner (s.line n).owner claim (s.line n).run.state = some o →
      s.applyClaim n claim wentOn = (s.claimed n claim).giveOwner n o) ∧
    (¬acts ∨ claimOwner (s.line n).owner claim (s.line n).run.state = none →
      s.applyClaim n claim wentOn = s.claimed n claim) := by
  intro acts
  unfold State.applyClaim
  dsimp only
  refine ⟨fun o does gives => ?_, fun not => ?_⟩
  · rw [if_pos (by exact does), gives]
    rfl
  · by_cases does : acts
    · rw [if_pos (by exact does), not.resolve_left (not_not.2 does)]
      rfl
    · rw [if_neg (by exact does)]
      rfl

/-! ## The record as it is acted on (R143, R163) -/

theorem exec_lineRecordReadComplete {bs : List Byte} {t : Transaction} (full : bs.length = 128)
    (inFlight : s.port.inFlight = some t) (job : t.job = .sweepLine n) :
    exec (.lineRecordReadComplete bs) s = if t.stale then .next s.completed.settlePort
      else .next ((s.completed.actOnLine n (lineHostOf bs)).sweepOn n).settlePort := by
  change execLineRecordReadComplete bs s = _
  unfold execLineRecordReadComplete
  rw [inFlight]
  dsimp only
  rw [job]
  dsimp only
  rw [if_pos full]
  rfl

theorem captures_iff (l : Line) : l.captures = true ↔ l.status = .on ∨ l.cap.draining = true := by
  unfold Line.captures
  rw [Bool.or_eq_true, beq_iff_eq]

theorem isOn_iff (s : State) (n : LineNo) : s.isOn n = true ↔ (s.line n).status = .on := by
  by_cases on : (s.line n).status = .on
  · exact iff_of_true (isOn_of_on on) on
  · refine iff_of_false ?_ on
    rw [isOn_of_off on]
    exact nofun

/-- The order in which a record is acted on (R143). -/
theorem actOnLine_eq (s : State) (n : LineNo) (h : LineHost) :
    let v := s.applyEnable n h
    let on := (v.line n).status = .on
    let w := if on ∨ (v.line n).cap.draining = true then v.applyTaken n h.taken else v
    s.actOnLine n h = ((w.applyFill n h.fill).applyClaim n (h.claim != 0)
      (decide (on ∧ (s.line n).status ≠ .on))).examineSlot n h := by
  intro v on w
  have took : (if (v.line n).captures = true then v.applyTaken n h.taken else v) = w :=
    if_congr (captures_iff _) rfl rfl
  have went : (!s.isOn n && v.isOn n) = decide (on ∧ (s.line n).status ≠ .on) := by
    rw [Bool.eq_iff_iff, decide_eq_true_iff, Bool.and_eq_true, Bool.not_eq_true', ← Bool.not_eq_true, isOn_iff, isOn_iff]
    exact and_comm
  unfold State.actOnLine
  dsimp only
  rw [took, went]

/-! ## An OFF line's record with Enable 0 -/

/-- What the read of an OFF line's record with Enable 0 does to the line, before the sweep moves on. -/
theorem actOnLine_off {h : LineHost} (off : (s.line n).status = .off) (enable : h.enable = 0)
    (dry : (s.line n).cap.draining = false)
    (tag : (s.line n).takenTag = none ∨ (s.line n).takenTag = some h.tag) :
    let claim := h.claim != 0
    ∃ r, LineBecomes n s (s.actOnLine n h) { s.line n with
        claim := claim, claimSeen := claim, takenTag := some h.tag
        result := (if (s.line n).takenTag = none then .none else (s.line n).result) } r ∧
      ((s.line n).claimSeen ≠ claim → r.dirty.get n = true) := by
  intro claim
  have still : s.applyEnable n h = s := by rw [applyEnable_off off, if_pos enable]
  have notOn : (s.line n).status ≠ .on := by rw [off]; decide
  have acts : s.actOnLine n h = (s.claimed n claim).examineSlot n h := by
    have order := actOnLine_eq s n h
    rw [still] at order
    dsimp only at order
    rw [if_neg (not_or.2 ⟨notOn, Bool.eq_false_iff.1 dry⟩), applyFill_off notOn] at order
    rw [order, (applyClaim_cases s n claim _).2 (.inl fun both => notOn both.1)]
  have taken := becomes_claimed s n claim
  have tagged : ((s.claimed n claim).line n).takenTag = (s.line n).takenTag := by rw [taken.line]
  have dirty : (s.line n).claimSeen ≠ claim → (s.claimed n claim).reports.dirty.get n = true := fun changed => by
    rw [taken.reports, if_neg changed]
    exact dirty_mark_self ..
  rw [acts]
  rcases tag with unset | same
  · rw [examineSlot_first (tagged.trans unset), unset]
    have adopted := taken.trans (becomes_mark n (s.claimed n claim) fun l =>
      { l with takenTag := some h.tag, result := .none })
    rw [taken.line] at adopted
    exact ⟨_, adopted, fun _ => dirty_mark_self ..⟩
  · rw [examineSlot_again (tagged.trans same), same]
    refine ⟨_, taken.as_line ?_, fun changed => by rw [← taken.reports]; exact dirty changed⟩
    rw [if_neg nofun, ← same]

/-- What the sweep's moving on changes. -/
theorem sweepOn_keeps (s : State) (n : LineNo) : (s.sweepOn n).lines = s.lines ∧ (s.sweepOn n).store = s.store ∧
    (s.sweepOn n).ctl = s.ctl ∧ (s.sweepOn n).lockSet = s.lockSet ∧ (s.sweepOn n).linesInUse = s.linesInUse ∧
    (s.sweepOn n).notices = s.notices ∧ (s.sweepOn n).port = s.port ∧ (s.sweepOn n).reports.dirty = s.reports.dirty := by
  by_cases more : n.val + 1 < 32 ∧ n.val + 1 < s.linesInUse
  · rw [sweepOn_next more.1 more.2]
    exact ⟨rfl, rfl, rfl, rfl, rfl, rfl, rfl, rfl⟩
  · rw [sweepOn_ends (by omega), endSweep_eq]
    exact ⟨rfl, rfl, rfl, rfl, rfl, rfl, rfl, rfl⟩

end

/-- Settles O39: the record's bytes, its checks, and each part of it in the order of R143. -/
theorem offLineRecordRead : Obligations.OffLineRecordRead := by
  refine ⟨fun n bs t s full inFlight job fresh => ?off, fun n bs t s full inFlight job => ?acts,
    fun n v claim wentOn s => ?parts, ⟨fun bs k => ⟨rfl, wordAt_toNat bs k, rfl⟩, fun bs => rfl⟩, fun h f => ?checks⟩
  case off =>
    intro l h claim off enable dry tag
    have row := exec_lineRecordReadComplete full inFlight job
    rw [fresh] at row
    obtain ⟨r, becomes, dirty⟩ := actOnLine_off (s := s.completed) (h := h) off enable dry tag
    have common := becomes.common
    have port : (s.completed.actOnLine n h).port = s.completed.port := becomes.port
    have store : (s.completed.actOnLine n h).store = s.completed.store := becomes.store
    refine ⟨_, row, ?_⟩
    change OnlyLine n s ((s.completed.actOnLine n h).sweepOn n) ∧
      ((s.completed.actOnLine n h).sweepOn n).line n = _ ∧ _
    obtain ⟨line, reports, others, -⟩ := becomes
    generalize s.completed.actOnLine n h = w at *
    obtain ⟨lines, store', ctl', lock', inUse', notices', port', dirty'⟩ := sweepOn_keeps w n
    obtain ⟨ctl, scan, lock, clock, notices, inUse⟩ := common_parts common
    refine ⟨fun m apart => (line_congr lines m).trans (others m apart), (line_congr lines n).trans line,
      store'.trans store, ctl'.trans ctl, lock'.trans lock, inUse'.trans inUse, notices'.trans notices, port'.trans port,
      fun changed => ?_, fun below used => ?_, fun last => ?_⟩
    · rw [dirty', reports]
      exact dirty changed
    · rw [sweepOn_next below (by rw [inUse]; exact used)]
      dsimp only
      rw [scan]
      rfl
    · rw [sweepOn_ends (.inl (by rw [inUse]; exact last)), endSweep_eq, scan, ctl, port, clock]
      refine ⟨?_, rfl, fun none => ?_, fun pending running clear => ?_⟩
      · dsimp only
        split <;> rfl
      · have waits : ¬(s.completed.scan.pending = true ∧ s.completed.ctl.part = .running ∧ s.completed.port.flag = false) :=
          fun ⟨pending, _⟩ => Bool.noConfusion (none.symm.trans pending)
        rw [if_neg waits]
      · have starts : s.completed.scan.pending = true ∧ s.completed.ctl.part = .running ∧ s.completed.port.flag = false :=
          ⟨pending, running, clear⟩
        rw [if_pos starts]
        exact ⟨rfl, rfl⟩
  case acts =>
    intro done h v on w x
    have row := exec_lineRecordReadComplete full inFlight job
    refine ⟨fun stale => ?_, fun fresh => ?_⟩
    · rw [stale] at row
      exact row
    · rw [fresh] at row
      exact row.trans (congrArg (fun y : State => Host.Outcome.next (y.sweepOn n).settlePort)
        (actOnLine_eq s.completed n h))
  case parts =>
    intro l c size taken hold roll changed far inProgress filled claimed acts
    have fills : l.applyFill v = filled := applyFill_eq l v
    refine ⟨fun mode => applyTaken_hold mode v, fun mode => applyTaken_roll mode v, fun on => ?_, fun off =>
      applyFill_off off v, s.claimed n claim, becomes_claimed s n claim, (applyClaim_cases s n claim wentOn).1,
      (applyClaim_cases s n claim wentOn).2⟩
    rw [← fills]
    exact applyFill_on on v
  case checks =>
    intro outside
    refine ⟨?_, anyClamped_iff h, validate_ok_iff⟩
    rw [formatOf_iff]
    obtain ⟨d, p, st, rm, fl, cm⟩ := f
    cases d <;> cases p <;> cases st <;> cases rm <;> cases fl <;> cases cm <;> exact Iff.rfl

end Sys2Proof.Machine
end

section
/-! O52. The three faults of the Memory Port (R171, R178 to R182). -/

namespace Sys2Proof.Machine

section
variable {s t u e d : State} {n : LineNo}

/-! ## A report write cut by a fault (R171) -/

/-- The causes that a fault returns to line n. -/
def State.returned (s : State) (n : LineNo) : BitVec 12 :=
  match s.port.inFlight with
  | some t => if t.job = .reportLine n then s.reports.carried else 0
  | none => 0

theorem returned_none (idle : s.port.inFlight = none) : s.returned n = 0 := by
  unfold State.returned
  rw [idle]

theorem returned_some {t : Transaction} (flying : s.port.inFlight = some t) :
    s.returned n = if t.job = .reportLine n then s.reports.carried else 0 := by
  unfold State.returned
  rw [flying]

theorem returnCarried_none (idle : s.port.inFlight = none) : s.returnCarried = s := by
  unfold State.returnCarried
  rw [idle]

theorem returnCarried_header {t : Transaction} (flying : s.port.inFlight = some t) (job : t.job = .reportHeader) :
    s.returnCarried = { s with reports := { s.reports with
      headerDirty := true
      heldStation := s.reports.heldStation ||| s.reports.carriedStation, carriedStation := 0 } } := by
  unfold State.returnCarried
  rw [flying]
  dsimp only
  rw [job]

theorem returnCarried_line {t : Transaction} (flying : s.port.inFlight = some t) (job : t.job = .reportLine n) :
    s.returnCarried = { s with reports := { s.reports with
      dirty := s.reports.dirty.set n.val true n.isLt
      held := s.reports.held.set n.val (s.reports.held.get n ||| s.reports.carried) n.isLt, carried := 0 } } := by
  unfold State.returnCarried
  rw [flying]
  dsimp only
  rw [job]

theorem returnCarried_other {t : Transaction} (flying : s.port.inFlight = some t) (header : t.job ≠ .reportHeader)
    (line : ∀ n, t.job ≠ .reportLine n) : s.returnCarried = s := by
  unfold State.returnCarried
  rw [flying]
  dsimp only
  split
  next is => exact absurd is header
  next m is => exact absurd is (line m)
  next => rfl

/-- A fault returns causes to the line whose report write it cut, and to no other. -/
theorem returnCarried_held (s : State) (n : LineNo) :
    s.returnCarried.reports.held.get n = s.reports.held.get n ||| s.returned n := by
  cases flying : s.port.inFlight with
  | none =>
    rw [returnCarried_none flying, returned_none flying]
    exact BitVec.or_zero.symm
  | some t =>
    rw [returned_some flying]
    by_cases own : t.job = .reportLine n
    · rw [returnCarried_line flying own, if_pos own]
      exact vector_get_set_self ..
    · rw [if_neg own]
      refine Eq.trans ?_ BitVec.or_zero.symm
      by_cases header : t.job = .reportHeader
      · rw [returnCarried_header flying header]
      · by_cases line : ∃ m, t.job = .reportLine m
        · obtain ⟨m, job⟩ := line
          rw [returnCarried_line flying job]
          exact vector_get_set_ne _ _ fun same => own (same ▸ job)
        · rw [returnCarried_other flying header (not_exists.1 line)]

theorem returnCarried_keeps (s : State) : s.returnCarried.shared = s.shared ∧ s.returnCarried.lines = s.lines := by
  unfold State.returnCarried
  split
  · split <;> exact ⟨rfl, rfl⟩
  · exact ⟨rfl, rfl⟩

/-! ## The load in progress (R100) -/

/-- A load in progress concludes MEMORY_FAULT: its block is EMPTY, and LOAD_CONCLUDED is held. -/
theorem endLoad_fault {l : Loader} (loading : s.store.loader = some l) :
    let u := s.endLoad .memoryFault
    u.store.loader = none ∧ u.store.loadResult = .memoryFault ∧ u.store.loadBlock = l.block.val ∧
    (u.block l.block).state = .empty ∧ u.reports.heldStation &&& 0x2 = 0x2 ∧ u.reports.headerDirty = true := by
  have concludes : s.endLoad .memoryFault = s.concludeLoad l .memoryFault 0 := by
    unfold State.endLoad
    rw [loading]
  intro u
  rw [show u = _ from concludes]
  have block : (s.concludeLoad l .memoryFault 0).block l.block = (s.block l.block).concluded l .memoryFault :=
    block_modBlock_self s l.block fun b => b.concluded l .memoryFault
  have held : (s.concludeLoad l .memoryFault 0).reports.heldStation = s.reports.heldStation ||| 0x2 := rfl
  rw [block, held]
  refine ⟨rfl, rfl, rfl, rfl, ?_, rfl⟩
  generalize s.reports.heldStation = b
  revert b
  decide

/-! ## The FIFOs during a stop (R80) -/

theorem discardFifo_empty (empty : (s.line n).cap.fifo = []) : s.discardFifo n = s := by
  unfold State.discardFifo
  rw [empty]
  rfl

/-- A FIFO that holds something is emptied into Dropped, with DATA_DROPPED. -/
theorem becomes_discardFifo (some : (s.line n).cap.fifo ≠ []) : LineBecomes n s (s.discardFifo n)
    { s.line n with cap := { (s.line n).cap with
      fifo := [], dropped := min 4294967295 ((s.line n).cap.dropped + (s.line n).cap.fifo.length), draining := false } }
    (s.raise n .dataDropped).reports := by
  have discards : s.discardFifo n = ((s.modCap n fun c => c.keep 0).markIf n ((s.line n).cap.draining != false)).raise n
      .dataDropped := by
    unfold State.discardFifo
    rw [if_neg (by rw [List.isEmpty_iff]; exact some)]
    unfold State.keepFifo
    dsimp only
    rw [decide_eq_true (show 0 < (s.line n).cap.fifo.length - 0 from List.length_pos_iff.2 some)]
    rfl
  have marked := becomes_markIf n s (fun l => { l with cap := l.cap.keep 0 }) ((s.line n).cap.draining != false)
  rw [discards]
  refine ⟨?_, ?_, marked.others, marked.shared⟩
  · refine marked.line.trans ?_
    rw [keep_eq]
    rfl
  · refine raise_after_mark .dataDropped ?_
    cases h : ((s.line n).cap.draining != false)
    · exact .inl rfl
    · exact .inr rfl

/-- What the discarding keeps, line after line. -/
structure Discarding (s t : State) : Prop where
  shared  : t.shared = s.shared
  header  : t.reports.headerDirty = s.reports.headerDirty
  station : t.reports.heldStation = s.reports.heldStation
  dirty   : ∀ n, s.reports.dirty.get n = true → t.reports.dirty.get n = true

/-- A line and its causes as they were. -/
def Untouched (s : State) (n : LineNo) (t : State) : Prop :=
  t.line n = s.line n ∧ t.reports.held.get n = s.reports.held.get n

/-- A line and its causes as the discarding leaves them. -/
def Emptied (s : State) (n : LineNo) (t : State) : Prop :=
  ((s.line n).cap.fifo = [] → Untouched s n t) ∧
  ((s.line n).cap.fifo ≠ [] → t.line n = { s.line n with cap := { (s.line n).cap with
      fifo := [], dropped := min 4294967295 ((s.line n).cap.dropped + (s.line n).cap.fifo.length), draining := false } } ∧
    t.reports.held.get n = s.reports.held.get n ||| 0x200 ∧ t.reports.dirty.get n = true)

theorem discardFifo_other {m : LineNo} (apart : n ≠ m) : (t.discardFifo m).line n = t.line n ∧
    (t.discardFifo m).reports.held.get n = t.reports.held.get n := by
  by_cases empty : (t.line m).cap.fifo = []
  · rw [discardFifo_empty empty]
    exact ⟨rfl, rfl⟩
  · have becomes := becomes_discardFifo empty
    refine ⟨becomes.others n apart, ?_⟩
    rw [becomes.reports]
    exact vector_get_set_ne _ _ apart

theorem Discarding.turn (p : Discarding s t) (m : LineNo) : Discarding s (t.discardFifo m) := by
  by_cases empty : (t.line m).cap.fifo = []
  · rw [discardFifo_empty empty]
    exact p
  · have becomes := becomes_discardFifo empty
    have reports := becomes.reports
    refine ⟨becomes.shared.trans p.shared, ?_, ?_, fun n dirty => ?_⟩
    · rw [reports]
      exact p.header
    · rw [reports]
      exact p.station
    · rw [reports]
      exact (grows_raise t m .dataDropped).dirty n (p.dirty n dirty)

theorem Untouched.emptied (w : Untouched s n t) : Emptied s n (t.discardFifo n) := by
  obtain ⟨line, held⟩ := w
  have fifo : (t.line n).cap.fifo = (s.line n).cap.fifo := by rw [line]
  refine ⟨fun empty => ?_, fun some => ?_⟩
  · rw [discardFifo_empty (fifo.trans empty)]
    exact ⟨line, held⟩
  · have becomes := becomes_discardFifo (s := t) (n := n) (by rw [fifo]; exact some)
    rw [becomes.line, becomes.reports, held_raise_self, line, held]
    exact ⟨rfl, rfl, dirty_raise_self ..⟩

theorem Emptied.turn {m : LineNo} (q : Emptied s n t) (apart : n ≠ m) : Emptied s n (t.discardFifo m) := by
  obtain ⟨line, held⟩ := discardFifo_other (t := t) apart
  have dirty : t.reports.dirty.get n = true → (t.discardFifo m).reports.dirty.get n = true := by
    by_cases empty : (t.line m).cap.fifo = []
    · rw [discardFifo_empty empty]
      exact id
    · rw [(becomes_discardFifo empty).reports]
      exact (grows_raise t m .dataDropped).dirty n
  obtain ⟨empty, some⟩ := q
  unfold Emptied Untouched
  rw [line, held]
  exact ⟨empty, fun is => ⟨(some is).1, (some is).2.1, dirty (some is).2.2⟩⟩

/-- The state as every FIFO has been discarded. -/
def State.fifosDiscarded (s : State) : State := s.forLines fun n t => t.discardFifo n

theorem fifosDiscarded_says (s : State) : Discarding s s.fifosDiscarded ∧ ∀ n, Emptied s n s.fifosDiscarded :=
  forLines_turns (P := Discarding s) (R := Untouched s) (Q := Emptied s) ⟨rfl, rfl, rfl, fun _ dirty => dirty⟩
    (fun _ => ⟨rfl, rfl⟩) (fun n _ p w => ⟨p.turn n, w.emptied⟩)
    (fun _ _ _ apart _ w => ⟨(discardFifo_other apart).1.trans w.1, (discardFifo_other apart).2.trans w.2⟩)
    fun _ _ _ apart _ q => q.turn apart

/-! ## The record of a fault (R179, R180) -/

/-- The state whose port has met a fault: HOLD lowered, nothing in flight, the sweep abandoned. -/
def State.portCut (s : State) (kind : FaultKind) (client : Option Client) (addr : Word) : State :=
  { s with
    port := { s.port with
      flag := true, faultKind := kind, faultClient := client, faultAddr := addr
      bus := .idle, inFlight := none }
    scan := { s.scan with position := none } }

/-- The last of a fault: a start ends, or a stop that is wound up, and the station is told. -/
def State.faultTold (s : State) : State :=
  ({ s with ctl := s.ctl.onFault } : State).recordStation StationCause.memoryFault.bits

/-- The FIFOs as a fault leaves them: emptied in STOPPING. -/
def State.faultDiscards (s : State) : State := if s.ctl.part = .stopping then s.fifosDiscarded else s

theorem recordFault_eq (s : State) (kind : FaultKind) (client : Option Client) (addr : Word) :
    s.recordFault kind client addr =
      ((s.returnCarried.portCut kind client addr).endLoad .memoryFault).faultDiscards.faultTold := rfl

theorem faultTold_notices (c mask : BitVec 4) : c ||| (0x4 &&& (mask ||| 0x4)) = c ||| 0x4 := by
  revert c mask
  decide

theorem faultTold_says (s : State) : s.faultTold.lines = s.lines ∧ s.faultTold.reports = s.reports ∧
    s.faultTold.store = s.store ∧ s.faultTold.port = s.port ∧ s.faultTold.scan = s.scan ∧
    s.faultTold.lockSet = s.lockSet ∧ s.faultTold.clock = s.clock ∧ s.faultTold.linesInUse = s.linesInUse ∧
    s.faultTold.ctl = s.ctl.onFault ∧
    s.faultTold.notices = { s.notices with station := s.notices.station ||| 0x4 } := by
  refine ⟨rfl, rfl, rfl, rfl, rfl, rfl, rfl, rfl, rfl, ?_⟩
  have station : s.faultTold.notices = { s.notices with
    station := s.notices.station ||| (0x4 &&& (s.notices.stationMask ||| 0x4)) } := rfl
  rw [station, faultTold_notices]

theorem faultDiscards_says (s : State) : Discarding s s.faultDiscards ∧
    (s.ctl.part = .stopping → ∀ n, Emptied s n s.faultDiscards) ∧
    (s.ctl.part ≠ .stopping → ∀ n, Untouched s n s.faultDiscards) := by
  unfold State.faultDiscards
  obtain ⟨all, each⟩ := fifosDiscarded_says s
  by_cases stops : s.ctl.part = .stopping
  · rw [if_pos stops]
    exact ⟨all, fun _ => each, fun other => absurd stops other⟩
  · rw [if_neg stops]
    exact ⟨⟨rfl, rfl, rfl, fun _ dirty => dirty⟩, fun is => absurd is stops, fun _ _ => ⟨rfl, rfl⟩⟩

theorem onFault_eq (c : Control) : (c.part = .running ∨ c.part = .halted → c.onFault = c) ∧
    (c.part = .starting → c.onFault = { c with part := .halted }) ∧
    (c.part = .stopping → c.windUp = true → c.onFault = { c with part := .halted, windUp := false }) ∧
    (c.part = .stopping → c.windUp = false → c.onFault = c) := by
  unfold Control.onFault
  refine ⟨fun is => ?_, fun is => ?_, fun is done => ?_, fun is waits => ?_⟩
  · rcases is with is | is <;> rw [is]
  · rw [is]
  · rw [is, done]
    rfl
  · rw [is, waits]
    rfl

/-- The fault's state before the FIFOs: the report write's causes returned, the port cut, the load concluded. -/
theorem faultMet (s : State) (kind : FaultKind) (client : Option Client) (addr : Word) :
    let e := (s.returnCarried.portCut kind client addr).endLoad .memoryFault
    e.lines = s.lines ∧ e.ctl = s.ctl ∧ e.scan = { s.scan with position := none } ∧ e.notices = s.notices ∧
    e.lockSet = s.lockSet ∧ e.clock = s.clock ∧ e.linesInUse = s.linesInUse ∧
    e.port = { s.port with
      flag := true, faultKind := kind, faultClient := client, faultAddr := addr, bus := .idle, inFlight := none } ∧
    e.reports.held = s.returnCarried.reports.held ∧ e.reports.dirty = s.returnCarried.reports.dirty ∧
    (s.store.loader = none → e.store = s.store ∧ e.reports = s.returnCarried.reports) ∧
    (∀ l, s.store.loader = some l → e.store.loader = none ∧ e.store.loadResult = .memoryFault ∧
      e.store.loadBlock = l.block.val ∧ (e.block l.block).state = .empty ∧
      e.reports.heldStation &&& 0x2 = 0x2 ∧ e.reports.headerDirty = true) := by
  obtain ⟨shared, lines⟩ := returnCarried_keeps s
  generalize s.returnCarried = r at *
  have common : r.common = s.common := congrArg Shared.common shared
  have store : r.store = s.store := congrArg Shared.store shared
  have port : r.port = s.port := congrArg Shared.port shared
  obtain ⟨ctl, scan, lock, clock, notices, inUse⟩ := common_parts common
  rw [← lines, ← ctl, ← scan, ← lock, ← clock, ← notices, ← inUse, ← port, ← store]
  intro e
  have before : e.common = (r.portCut kind client addr).common := common_endLoad ..
  obtain ⟨lines', port', -, -, held', dirty', -⟩ := endLoad_beside (r.portCut kind client addr) .memoryFault
  obtain ⟨ctl', scan', lock', clock', notices', inUse'⟩ := common_parts before
  refine ⟨lines', ctl', scan', notices', lock', clock', inUse', port', held', dirty', fun idle => ?_, fun l loading => ?_⟩
  · have same : e = r.portCut kind client addr := endLoad_idle (s := r.portCut kind client addr) idle _
    rw [same]
    exact ⟨rfl, rfl⟩
  · exact endLoad_fault (s := r.portCut kind client addr) loading

/-- What a fault makes of the lines. -/
theorem recordFault_line (s : State) (kind : FaultKind) (client : Option Client) (addr : Word) (n : LineNo) :
    let l := s.line n
    let u := s.recordFault kind client addr
    let discarded := s.ctl.part = .stopping ∧ l.cap.fifo ≠ []
    (¬discarded → u.line n = l) ∧
    (discarded → u.reports.dirty.get n = true ∧ u.line n = { l with cap := { l.cap with
      fifo := [], dropped := min 4294967295 (l.cap.dropped + l.cap.fifo.length), draining := false } }) ∧
    u.reports.held.get n = s.reports.held.get n ||| s.returned n ||| (if discarded then 0x200 else 0) := by
  intro l u discarded
  obtain ⟨lines, ctl, -, -, -, -, -, -, held, -⟩ := faultMet s kind client addr
  have is : u = _ := recordFault_eq s kind client addr
  generalize (s.returnCarried.portCut kind client addr).endLoad .memoryFault = e at *
  obtain ⟨-, stops, other⟩ := faultDiscards_says e
  obtain ⟨tLines, tReports, -⟩ := faultTold_says e.faultDiscards
  have line : u.line n = e.faultDiscards.line n := by rw [is]; exact line_congr tLines n
  have reports : u.reports = e.faultDiscards.reports := by rw [is]; exact tReports
  have was : e.line n = s.line n := line_congr lines n
  have returned : e.reports.held.get n = s.reports.held.get n ||| s.returned n := by
    rw [held]
    exact returnCarried_held s n
  rw [line, reports]
  by_cases yes : discarded
  · obtain ⟨-, emptied⟩ := stops (by rw [ctl]; exact yes.1) n
    obtain ⟨line', held', dirty'⟩ := emptied (by rw [was]; exact yes.2)
    rw [was] at line'
    refine ⟨fun no => absurd yes no, fun _ => ⟨dirty', line'⟩, ?_⟩
    rw [held', returned, if_pos yes]
  · have untouched : Untouched e n e.faultDiscards := by
      by_cases part : e.ctl.part = .stopping
      · have empty : (e.line n).cap.fifo = [] := by
          rw [was]
          by_contra some
          exact yes ⟨by rw [← ctl]; exact part, some⟩
        exact (stops part n).1 empty
      · exact other part n
    obtain ⟨line', held'⟩ := untouched
    refine ⟨fun _ => line'.trans was, fun is => absurd is yes, ?_⟩
    rw [held', returned, if_neg yes]
    exact BitVec.or_zero.symm

/-- What a fault makes of the rest of the part. -/
theorem recordFault_beside (s : State) (kind : FaultKind) (client : Option Client) (addr : Word) :
    let u := s.recordFault kind client addr
    u.port = { s.port with
      flag := true, faultKind := kind, faultClient := client, faultAddr := addr, bus := .idle, inFlight := none } ∧
    u.scan = { s.scan with position := none } ∧
    u.notices = { s.notices with station := s.notices.station ||| 0x4 } ∧
    u.lockSet = s.lockSet ∧ u.clock = s.clock ∧ u.linesInUse = s.linesInUse ∧ u.ctl = s.ctl.onFault ∧
    (s.store.loader = none → u.store = s.store) ∧
    (∀ l, s.store.loader = some l → u.store.loader = none ∧ u.store.loadResult = .memoryFault ∧
      u.store.loadBlock = l.block.val ∧ (u.block l.block).state = .empty ∧
      u.reports.heldStation &&& 0x2 = 0x2 ∧ u.reports.headerDirty = true) ∧
    (∀ n, s.returnCarried.reports.dirty.get n = true → u.reports.dirty.get n = true) ∧
    (s.store.loader = none → u.reports.headerDirty = s.returnCarried.reports.headerDirty ∧
      u.reports.heldStation = s.returnCarried.reports.heldStation) := by
  intro u
  obtain ⟨-, ctl, scan, notices, lock, clock, inUse, port, -, dirty, idle, loading⟩ := faultMet s kind client addr
  have is : u = _ := recordFault_eq s kind client addr
  generalize (s.returnCarried.portCut kind client addr).endLoad .memoryFault = e at *
  obtain ⟨⟨shared, header, station, marks⟩, -⟩ := faultDiscards_says e
  obtain ⟨-, tReports, tStore, tPort, tScan, tLock, tClock, tInUse, tCtl, tNotices⟩ := faultTold_says e.faultDiscards
  rw [← is] at tReports tStore tPort tScan tLock tClock tInUse tCtl tNotices
  have common : e.faultDiscards.common = e.common := congrArg Shared.common shared
  obtain ⟨dCtl, dScan, dLock, dClock, dNotices, dInUse⟩ := common_parts common
  have dPort : e.faultDiscards.port = e.port := congrArg Shared.port shared
  have dStore : e.faultDiscards.store = e.store := congrArg Shared.store shared
  have block : ∀ b, u.block b = e.block b := block_congr (tStore.trans dStore)
  refine ⟨tPort.trans (dPort.trans port), tScan.trans (dScan.trans scan), ?_, tLock.trans (dLock.trans lock),
    tClock.trans (dClock.trans clock), tInUse.trans (dInUse.trans inUse), ?_, fun none => ?_, fun l some => ?_,
    fun n marked => ?_, fun none => ?_⟩
  · rw [tNotices, dNotices, notices]
  · rw [tCtl, dCtl, ctl]
  · exact tStore.trans (dStore.trans (idle none).1)
  · rw [block, tStore, dStore, tReports, header, station]
    exact loading l some
  · rw [tReports]
    exact marks n (by rw [dirty]; exact marked)
  · rw [tReports, header, station, (idle none).2]
    exact ⟨rfl, rfl⟩

/-- With the bus idle and the fault flag set, the port does nothing at an event's end. -/
theorem settlePort_afterFault (s : State) (kind : FaultKind) (client : Option Client) (addr : Word) :
    (s.recordFault kind client addr).settlePort = s.recordFault kind client addr := by
  obtain ⟨port, -⟩ := recordFault_beside s kind client addr
  exact settlePort_faulted _ (by rw [port]) (by rw [port])

/-- The faults, each by its own answer of the bus (R176, R178). -/
theorem exec_fault {cmd : Instr} {kind : FaultKind} {client : Option Client} {addr : Word}
    (strikes : (cmd = .grantTimeout ∧ s.port.bus = .requesting ∧ kind = .grant ∧ client = s.port.grantClient ∧ addr = 0) ∨
      ∃ t, s.port.inFlight = some t ∧ client = some t.job.client ∧ addr = t.addr ∧
        (cmd = .accessTimeout ∧ kind = .access ∨ cmd = .busError ∧ kind = .error)) :
    exec cmd s = .next (s.recordFault kind client addr) := by
  have row : exec cmd s = .next (s.recordFault kind client addr).settlePort := by
    rcases strikes with ⟨rfl, requesting, rfl, rfl, rfl⟩ | ⟨t, flying, rfl, rfl, ⟨rfl, rfl⟩ | ⟨rfl, rfl⟩⟩
    · exact if_pos requesting
    · change execAccessTimeout s = _
      unfold execAccessTimeout
      rw [flying]
      rfl
    · change execBusError s = _
      unfold execBusError
      rw [flying]
      rfl
  rw [row, settlePort_afterFault]

end

/-- Settles O52: each fault is one record of it, made in four steps. -/
theorem memoryFaults : Obligations.MemoryFaults := by
  refine ⟨fun cmd kind client addr s strikes => ?_, fun s => ⟨fun still => if_neg still, fun idle => ⟨?_, ?_⟩⟩⟩
  · obtain ⟨port, scan, notices, lock, clock, inUse, ctl, stays, loading, marks, told⟩ :=
      recordFault_beside s kind client addr
    have line := recordFault_line s kind client addr
    obtain ⟨calm, starting, wound, winding⟩ := onFault_eq s.ctl
    have row := exec_fault strikes
    generalize s.recordFault kind client addr = u at *
    rw [← ctl] at calm starting wound winding
    have pin : u.holdPin = false := by
      unfold State.holdPin
      rw [port]
      rfl
    refine ⟨u, row, pin, port, scan, notices, lock, clock, inUse, calm, starting, wound, winding, line, stays, loading,
      fun t n flying job => marks n ?_, fun t flying job none => ?_⟩
    · rw [returnCarried_line flying job]
      exact vector_get_set_self ..
    · rw [(told none).1, (told none).2, returnCarried_header flying job]
      exact ⟨rfl, rfl⟩
  · change execAccessTimeout s = _
    unfold execAccessTimeout
    rw [idle]
  · change execBusError s = _
    unfold execBusError
    rw [idle]

end Sys2Proof.Machine
end

section
/-! O51. What the Memory Port does as an event ends, and what its clients ask for (R64, R148, R163, R171 to R178). -/

namespace Sys2Proof.Machine

/-! ## Searching in a cyclic order -/

/-- The first hit of a search through all candidates, in the order of a key, is the hit with the least key. -/
theorem find_least {α : Type} {xs : List α} {p : α → Bool} {key : α → Nat} {k : Nat}
    (order : xs.map key = List.range k) (every : ∀ a, a ∈ xs) :
    (xs.find? p = none ↔ ∀ a, p a = false) ∧
    ∀ a, xs.find? p = some a → p a = true ∧ ∀ b, p b = true → key a ≤ key b := by
  have sorted : xs.Pairwise fun a b => key a ≤ key b := List.pairwise_map.1 (order ▸ List.pairwise_le_range)
  refine ⟨List.find?_eq_none.trans ⟨fun none a => Bool.eq_false_iff.2 (none a (every a)),
    fun none a _ => Bool.eq_false_iff.1 (none a)⟩, fun a found => ?_⟩
  obtain ⟨hit, before, after, rfl, misses⟩ := List.find?_eq_some_iff_append.1 found
  refine ⟨hit, fun b hit' => ?_⟩
  obtain ⟨-, tail, -⟩ := List.pairwise_append.1 sorted
  rcases List.mem_append.1 (every b) with early | late
  · have miss := misses b early
    rw [hit'] at miss
    cases miss
  · rcases List.mem_cons.1 late with rfl | later
    · exact le_rfl
    · exact (List.pairwise_cons.1 tail).1 b later

/-- The clients after c, in their cyclic order (R174). -/
theorem clientsAfter_order (c : Client) :
    (clientsAfter c).map (fun d => (clientCode (some d) + 4 - clientCode (some c)) % 5) = List.range 5 := by
  cases c <;> rfl

/-- The lines after p, counted upward and wrapping (R64). -/
theorem linesAfter_order : ∀ p : LineNo, (linesAfter p).map (fun n => (n.val + 31 - p.val) % 32) = List.range 32 := by
  decide

theorem mem_linesAfter (p n : LineNo) : n ∈ linesAfter p :=
  List.mem_map.2 ⟨n - (p + 1), List.mem_finRange _, by rw [add_sub_cancel]⟩

/-- The place of a record in the cyclic order HEADER, line 0, line 1, ... (R171). -/
def Record.place (r : Record) : Nat := match r with | .header => 0 | .line n => n.val + 1

theorem recordsAfter_order (r : Record) :
    (recordsAfter r).map (fun q => (q.place + 32 - r.place) % 33) = List.range 33 := by
  have lines : ∀ n : LineNo, (recordsAfter (.line n)).map (fun q => (q.place + 32 - (Record.line n).place) % 33) =
      List.range 33 := by decide
  cases r with
  | header => decide
  | line n => exact lines n

theorem mem_recordsAfter (r q : Record) : q ∈ recordsAfter r := by
  have line : ∀ n : LineNo, Record.line n ∈ (List.finRange 32).map Record.line := fun n =>
    List.mem_map.2 ⟨n, List.mem_finRange n, rfl⟩
  unfold recordsAfter
  cases r with
  | header =>
    cases q with
    | header => exact List.mem_append.2 (.inr List.mem_cons_self)
    | line n => exact List.mem_append.2 (.inl (line n))
  | line m =>
    dsimp only
    cases q with
    | header => exact List.mem_append.2 (.inl (List.mem_append.2 (.inr List.mem_cons_self)))
    | line n =>
      have either := line n
      rw [← List.take_append_drop (m.val + 1) ((List.finRange 32).map Record.line)] at either
      rcases List.mem_append.1 either with early | late
      · exact List.mem_append.2 (.inr early)
      · exact List.mem_append.2 (.inl (List.mem_append.2 (.inl late)))

section
variable {s t u : State} {n : LineNo} {c : Client} {j : Job}

/-! ## What each client asks for -/

theorem captureReady_iff (l : Line) :
    l.captureReady = true ↔ (l.status = .on ∨ l.cap.draining = true) ∧ 1 ≤ l.writable := by
  unfold Line.captureReady
  rw [Bool.and_eq_true, captures_iff, decide_eq_true_iff]

theorem fetchReady_iff (l : Line) : l.fetchReady = true ↔ l.status = .on ∧
    (l.ownerInForce = .operator ∨ l.ownerInForce = .lent) ∧ l.staging = [] ∧ 0 < l.pendingLength := by
  unfold Line.fetchReady
  rw [Bool.and_eq_true, Bool.and_eq_true, Bool.and_eq_true, beq_iff_eq, isOperators_iff, List.isEmpty_iff,
    decide_eq_true_iff, and_assoc, and_assoc]

/-- The job of a report write of a record. -/
def reportJob (r : Record) : Job := match r with | .header => .reportHeader | .line n => .reportLine n

theorem reportJob_injective {q r : Record} (same : reportJob q = reportJob r) : q = r := by
  cases q <;> cases r <;> cases same <;> rfl

/-- The record is dirty, and one that the Report Writer may write now (R171, R172). -/
def State.reportable (s : State) (r : Record) : Prop :=
  (s.ctl.part = .running ∨ s.ctl.part = .stopping) ∧ s.recordDirty r = true

/-- The job of a client that asks names the client. -/
theorem client_of_jobOf (asks : s.jobOf c = some j) : j.client = c := by
  cases c with
  | scanner =>
    change s.scanJob = some j at asks
    unfold State.scanJob at asks
    split at asks
    · cases asks; rfl
    · split at asks <;> cases asks <;> rfl
  | capture =>
    obtain ⟨n, -, rfl⟩ := Option.map_eq_some_iff.1 asks
    rfl
  | fetcher =>
    obtain ⟨n, -, rfl⟩ := Option.map_eq_some_iff.1 asks
    rfl
  | report =>
    obtain ⟨r, -, rfl⟩ := Option.map_eq_some_iff.1 asks
    cases r <;> rfl
  | loader =>
    obtain ⟨l, -, rfl⟩ := Option.map_eq_some_iff.1 asks
    rfl

theorem jobOf_capture (s : State) : (s.jobOf .capture = none ↔ ∀ n, (s.line n).captureReady = false) ∧
    ∀ j, s.jobOf .capture = some j → ∃ n, j = .capture n ∧ (s.line n).captureReady = true ∧
      ∀ m, (s.line m).captureReady = true → (n.val + 31 - s.capturePos.val) % 32 ≤ (m.val + 31 - s.capturePos.val) % 32 := by
  obtain ⟨none, found⟩ := find_least (p := fun n => (s.line n).captureReady) (linesAfter_order s.capturePos)
    (mem_linesAfter s.capturePos)
  refine ⟨Option.map_eq_none_iff.trans none, fun j asks => ?_⟩
  obtain ⟨n, first, rfl⟩ := Option.map_eq_some_iff.1 asks
  exact ⟨n, rfl, found n first⟩

theorem jobOf_fetcher (s : State) : (s.jobOf .fetcher = none ↔ ∀ n, (s.line n).fetchReady = false) ∧
    ∀ j, s.jobOf .fetcher = some j → ∃ n, j = .fetch n ∧ (s.line n).fetchReady = true ∧
      ∀ m, (s.line m).fetchReady = true → (n.val + 31 - s.fetchPos.val) % 32 ≤ (m.val + 31 - s.fetchPos.val) % 32 := by
  obtain ⟨none, found⟩ := find_least (p := fun n => (s.line n).fetchReady) (linesAfter_order s.fetchPos)
    (mem_linesAfter s.fetchPos)
  refine ⟨Option.map_eq_none_iff.trans none, fun j asks => ?_⟩
  obtain ⟨n, first, rfl⟩ := Option.map_eq_some_iff.1 asks
  exact ⟨n, rfl, found n first⟩

theorem jobOf_report (s : State) : (s.jobOf .report = none ↔ ∀ r, ¬s.reportable r) ∧
    ∀ j, s.jobOf .report = some j → ∃ r, j = reportJob r ∧ s.reportable r ∧ ∀ q, s.reportable q →
      (r.place + 32 - s.reports.position.place) % 33 ≤ (q.place + 32 - s.reports.position.place) % 33 := by
  obtain ⟨none, found⟩ := find_least (p := s.recordDirty) (recordsAfter_order s.reports.position)
    (mem_recordsAfter s.reports.position)
  have job : s.jobOf .report = s.reportRecord.map reportJob := rfl
  rw [job]
  by_cases writes : s.ctl.part = .running ∨ s.ctl.part = .stopping
  · have record : s.reportRecord = (recordsAfter s.reports.position).find? s.recordDirty := if_pos writes
    rw [record]
    refine ⟨Option.map_eq_none_iff.trans (none.trans ⟨fun clean r dirty => ?_, fun clean r => ?_⟩), fun j asks => ?_⟩
    · exact Bool.noConfusion ((clean r).symm.trans dirty.2)
    · exact Bool.eq_false_iff.2 fun dirty => clean r ⟨writes, dirty⟩
    · obtain ⟨r, first, rfl⟩ := Option.map_eq_some_iff.1 asks
      obtain ⟨dirty, least⟩ := found r first
      exact ⟨r, rfl, ⟨writes, dirty⟩, fun q other => least q other.2⟩
  · have record : s.reportRecord = Option.none := if_neg writes
    rw [record]
    exact ⟨⟨fun _ r dirty => writes dirty.1, fun _ => rfl⟩, nofun⟩

/-! ## The end of an event (R176, R177) -/

theorem firstAsking_cases (s : State) : (s.firstAsking = none ↔ ∀ c, s.asking c = false) ∧
    ∀ c, s.firstAsking = some c → s.asking c = true ∧ ∀ d, s.asking d = true →
      (clientCode (some c) + 4 - clientCode (some s.port.lastServed)) % 5 ≤
        (clientCode (some d) + 4 - clientCode (some s.port.lastServed)) % 5 :=
  find_least (clientsAfter_order s.port.lastServed) (clientsAfter_all s.port.lastServed)

/-- The port as it raises HOLD for the first client that asks. -/
def State.wanting (s : State) (p : Port) : Port :=
  match s.firstAsking with
  | some c => { p with bus := .requesting, grantClient := some c }
  | none => p

theorem raiseHold_wanting (idle : s.port.bus = .idle) (clear : s.port.flag = false) :
    s.raiseHold = { s with port := s.wanting s.port } := by
  unfold State.raiseHold State.wanting
  rw [if_pos ⟨idle, clear⟩]
  cases s.firstAsking <;> rfl

theorem raiseHold_still (still : s.port.bus ≠ .idle ∨ s.port.flag = true) : s.raiseHold = s :=
  if_neg fun ⟨idle, clear⟩ => still.elim (fun is => is idle) fun set => Bool.noConfusion (clear.symm.trans set)

theorem settlePort_other (other : ¬(s.port.bus = .holding ∧ s.port.inFlight = none)) : s.settlePort = s.raiseHold :=
  if_neg other

theorem settlePort_serves (holding : s.port.bus = .holding) (free : s.port.inFlight = none) (more : s.port.tenure < 8)
    (first : s.firstAsking = some c) (job : s.jobOf c = some j) : s.settlePort = s.startJob j := by
  unfold State.settlePort State.nextJob
  rw [if_pos ⟨holding, free⟩, if_neg (Nat.not_le.2 more), first, Option.bind_some, job]

theorem settlePort_ends (holding : s.port.bus = .holding) (free : s.port.inFlight = none) (more : s.port.tenure < 8)
    (none : s.firstAsking = none) : s.settlePort = { s with port := { s.port with bus := .idle } } := by
  unfold State.settlePort State.nextJob
  rw [if_pos ⟨holding, free⟩, if_neg (Nat.not_le.2 more), none]
  rfl

theorem settlePort_again (holding : s.port.bus = .holding) (free : s.port.inFlight = none) (eight : 8 ≤ s.port.tenure)
    (clear : s.port.flag = false) : s.settlePort = { s with port := s.wanting { s.port with bus := .idle } } := by
  unfold State.settlePort
  rw [if_pos ⟨holding, free⟩, if_pos eight]
  exact raiseHold_wanting (s := s.lowerHold) rfl clear

/-- What the start of a job changes in its client. -/
theorem startJob_client (s : State) (j : Job) :
    (s.startJob j).port = { s.port with inFlight := some (s.form j), lastServed := j.client } ∧
    (∀ n, j = .capture n → (s.startJob j).capturePos = n) ∧
    ((∀ n, j ≠ .capture n) → (s.startJob j).capturePos = s.capturePos) ∧
    (∀ n, j = .fetch n → (s.startJob j).fetchPos = n) ∧
    ((∀ n, j ≠ .fetch n) → (s.startJob j).fetchPos = s.fetchPos) ∧
    (∀ r, j = reportJob r → (s.startJob j).reports.position = r) ∧
    ((∀ r, j ≠ reportJob r) → (s.startJob j).reports = s.reports) := by
  cases j with
  | capture n =>
    exact ⟨rfl, fun m is => by cases is; rfl, fun other => absurd rfl (other n), nofun, fun _ => rfl,
      fun r is => (by cases r <;> cases is), fun _ => rfl⟩
  | fetch n =>
    exact ⟨rfl, nofun, fun _ => rfl, fun m is => by cases is; rfl, fun other => absurd rfl (other n),
      fun r is => (by cases r <;> cases is), fun _ => rfl⟩
  | reportHeader =>
    exact ⟨rfl, nofun, fun _ => rfl, nofun, fun _ => rfl, fun r is => by cases r <;> cases is; rfl,
      fun other => absurd rfl (other .header)⟩
  | reportLine n =>
    exact ⟨rfl, nofun, fun _ => rfl, nofun, fun _ => rfl, fun r is => by cases r <;> cases is; rfl,
      fun other => absurd rfl (other (.line n))⟩
  | startHeader => exact ⟨rfl, nofun, fun _ => rfl, nofun, fun _ => rfl, fun r is => (by cases r <;> cases is), fun _ => rfl⟩
  | sweepHeader => exact ⟨rfl, nofun, fun _ => rfl, nofun, fun _ => rfl, fun r is => (by cases r <;> cases is), fun _ => rfl⟩
  | sweepLine n => exact ⟨rfl, nofun, fun _ => rfl, nofun, fun _ => rfl, fun r is => (by cases r <;> cases is), fun _ => rfl⟩
  | load k => exact ⟨rfl, nofun, fun _ => rfl, nofun, fun _ => rfl, fun r is => (by cases r <;> cases is), fun _ => rfl⟩

/-- A load read is of 128 bytes, 64 the last, at the source plus 128 for each one before it (R91). -/
theorem form_load {l : Loader} (loading : s.store.loader = some l) (k : Nat) :
    s.form (.load k) = ⟨.load k, l.source + BitVec.ofNat 32 (128 * k), if k = 36 then 64 else 128, [], false⟩ := by
  unfold State.form
  dsimp only
  rw [loading]
  rfl

end

/-- Settles O51: the search in the cyclic orders, then the port by its bus, then each client's job. -/
theorem portServes : Obligations.PortServes := by
  refine ⟨fun s => ?port, fun s => ?clients⟩
  case port =>
    intro after wanted
    obtain ⟨none, first⟩ := firstAsking_cases s
    obtain ⟨lines, store, queue, slots, common⟩ := settlePort_keeps s
    have wants : ∀ p, wanted p = s.wanting p := fun _ => rfl
    refine ⟨none, first, ⟨lines, store, common, queue, slots⟩,
      fun holding free more => ⟨fun c j is job => ?_, settlePort_ends holding free more⟩,
      fun holding free eight clear => ?_, fun idle clear => ?_, fun idle set => settlePort_faulted s set idle,
      fun requesting => ?_, fun holding busy => ?_⟩
    · rw [settlePort_serves holding free more is job, (startJob_client s j).1, client_of_jobOf job]
    · rw [wants]
      exact settlePort_again holding free eight clear
    · rw [wants, settlePort_idle idle]
      exact raiseHold_wanting idle clear
    · rw [settlePort_other fun both => nomatch requesting.symm.trans both.1]
      exact raiseHold_still (.inl (by rw [requesting]; decide))
    · rw [settlePort_other fun both => busy both.2]
      exact raiseHold_still (.inl (by rw [holding]; decide))
  case clients =>
    intro lineAfter writes fetches place recordAfter dirty report
    obtain ⟨idleCapture, asksCapture⟩ := jobOf_capture s
    obtain ⟨idleFetch, asksFetch⟩ := jobOf_fetcher s
    obtain ⟨idleReport, asksReport⟩ := jobOf_report s
    have ready : ∀ n, (s.line n).captureReady = false ↔ ¬writes n := fun n => by
      rw [← Bool.not_eq_true, captureReady_iff]
    have fetchable : ∀ n, (s.line n).fetchReady = false ↔ ¬fetches n := fun n => by
      rw [← Bool.not_eq_true, fetchReady_iff]
    refine ⟨rfl, ⟨idleCapture.trans (forall_congr' ready), fun j asks => ?_⟩,
      ⟨idleFetch.trans (forall_congr' fetchable), fun j asks => ?_⟩, ⟨?_, fun j asks => ?_⟩, fun none => ?_,
      fun l loading => ⟨?_, form_load loading⟩, ⟨rfl, rfl, rfl, fun n => ⟨rfl, rfl⟩⟩,
      fun holding free more c j first job => ?_⟩
    · obtain ⟨n, is, hit, least⟩ := asksCapture j asks
      exact ⟨n, is, (captureReady_iff _).1 hit, fun m other => least m ((captureReady_iff _).2 other)⟩
    · obtain ⟨n, is, hit, least⟩ := asksFetch j asks
      exact ⟨n, is, (fetchReady_iff _).1 hit, fun m other => least m ((fetchReady_iff _).2 other)⟩
    · have same : ∀ r, s.reportable r ↔ dirty r := fun r => by cases r <;> exact Iff.rfl
      exact idleReport.trans (forall_congr' fun r => not_congr (same r))
    · obtain ⟨r, is, writable, least⟩ := asksReport j asks
      have same : ∀ r, s.reportable r ↔ dirty r := fun r => by cases r <;> exact Iff.rfl
      exact ⟨r, is, (same r).1 writable, fun q other => least q ((same q).2 other)⟩
    · change s.store.loader.map _ = _
      rw [none]
      rfl
    · change s.store.loader.map _ = _
      rw [loading]
      rfl
    · obtain ⟨-, capture, noCapture, fetch, noFetch, position, still⟩ := startJob_client s j
      rw [settlePort_serves holding free more first job]
      exact ⟨capture, noCapture, fetch, noFetch, fun r is => ⟨rfl, position r is⟩, still⟩

end Sys2Proof.Machine
end

section
/-! O55. The Loader's reads: the words and the records of a transaction, the checks, the conclusion (R91 to R98). -/

namespace Sys2Proof.Machine

section
variable {s t u : State} {l : Loader} {bs : List Byte} {k n : Nat}

/-! ## The words of a transaction (R92) -/

theorem wordAt_four (a b c d : Byte) (rest : List Byte) (k : Nat) :
    wordAt (a :: b :: c :: d :: rest) (4 * (k + 1)) = wordAt rest (4 * k) := rfl

theorem wordsOf_eq : ∀ bs : List Byte, wordsOf bs = (List.range (bs.length / 4)).map fun i => wordAt bs (4 * i)
  | [] | [_] | [_, _] | [_, _, _] => by simp [wordsOf]
  | a :: b :: c :: d :: rest => by
    have more : (a :: b :: c :: d :: rest).length / 4 = rest.length / 4 + 1 := by
      change (rest.length + 4) / 4 = _
      omega
    rw [more, List.range_succ_eq_map, List.map_cons, List.map_map]
    change (d ++ c ++ b ++ a) :: wordsOf rest = _
    rw [wordsOf_eq rest]
    rfl

/-- All indexes but the third. -/
theorem eraseIdx_range (n : Nat) : (List.range n).eraseIdx 2 = (List.range n).filter fun i => !(i == 2) := by
  rcases Nat.lt_or_ge n 3 with few | many
  · interval_cases n <;> rfl
  · obtain ⟨m, rfl⟩ := Nat.exists_eq_add_of_le many
    rw [List.range_add, List.eraseIdx_append_of_lt_length (by decide), List.filter_append]
    have later : ((List.range m).map fun x => 3 + x).filter (fun i => !(i == 2)) = (List.range m).map fun x => 3 + x := by
      refine List.filter_eq_self.2 fun i member => ?_
      obtain ⟨x, -, rfl⟩ := List.mem_map.1 member
      rw [Bool.not_eq_true', beq_eq_false_iff_ne]
      omega
    rw [later]
    rfl

/-- Every word but the Checksum word of transaction 0 is summed (R92). -/
theorem summedWords_eq (k : Nat) (bs : List Byte) : summedWords k bs =
    ((List.range (bs.length / 4)).filter fun i => !(k == 0 && i == 2)).map fun i => wordAt bs (4 * i) := by
  unfold summedWords
  rw [wordsOf_eq]
  by_cases first : k = 0
  · rw [if_pos first, List.eraseIdx_map, eraseIdx_range, first]
    rfl
  · rw [if_neg first, beq_eq_false_iff_ne.2 first]
    simp only [Bool.false_and, Bool.not_false, List.filter_true]

/-! ## The records of a transaction (R91) -/

/-- The pattern records of transaction k, by their offset in the image. -/
theorem patternIndexes (k : Nat) (most : k ≤ 36) : (List.range 16).filter (fun i => (64 + 32 * i) / 128 = k) =
    if k = 0 then [0, 1] else if k ≤ 3 then [4 * k - 2, 4 * k - 1, 4 * k, 4 * k + 1]
    else if k = 4 then [14, 15] else [] := by
  interval_cases k <;> decide

theorem stepIndexes (k : Nat) (most : k ≤ 36) : (List.range 64).filter (fun i => (576 + 64 * i) / 128 = k) =
    if k ≤ 3 then [] else if k = 4 then [0] else if k = 36 then [63] else [2 * k - 9, 2 * k - 8] := by
  interval_cases k <;> decide

theorem loadPatterns_eq (bs : List Byte) (most : k ≤ 36) : loadPatterns k bs =
    ((List.range 16).filter fun i => (64 + 32 * i) / 128 = k).map fun i => patternAt bs ((64 + 32 * i) % 128) := by
  rw [patternIndexes k most]
  unfold loadPatterns
  by_cases first : k = 0
  · rw [if_pos first, if_pos first]
    rfl
  · rw [if_neg first, if_neg first]
    by_cases early : k ≤ 3
    · rw [if_pos early, if_pos early]
      have offsets : (64 + 32 * (4 * k - 2)) % 128 = 0 ∧ (64 + 32 * (4 * k - 1)) % 128 = 32 ∧
          (64 + 32 * (4 * k)) % 128 = 64 ∧ (64 + 32 * (4 * k + 1)) % 128 = 96 := by omega
      obtain ⟨a, b, c, d⟩ := offsets
      simp only [List.map_cons, List.map_nil, a, b, c, d]
    · rw [if_neg early, if_neg early]
      by_cases fourth : k = 4
      · rw [if_pos fourth, if_pos fourth]
        rfl
      · rw [if_neg fourth, if_neg fourth]
        rfl

theorem loadSteps_eq (bs : List Byte) (most : k ≤ 36) : loadSteps k bs =
    ((List.range 64).filter fun i => (576 + 64 * i) / 128 = k).map fun i => stepAt bs ((576 + 64 * i) % 128) := by
  rw [stepIndexes k most]
  unfold loadSteps
  by_cases early : k ≤ 3
  · rw [if_pos early, if_pos early]
    rfl
  · rw [if_neg early, if_neg early]
    by_cases fourth : k = 4
    · rw [if_pos fourth, if_pos fourth]
      rfl
    · rw [if_neg fourth, if_neg fourth]
      by_cases last : k = 36
      · rw [if_pos last, if_pos last]
        rfl
      · rw [if_neg last, if_neg last]
        have offsets : (576 + 64 * (2 * k - 9)) % 128 = 0 ∧ (576 + 64 * (2 * k - 8)) % 128 = 64 := by omega
        obtain ⟨a, b⟩ := offsets
        simp only [List.map_cons, List.map_nil, a, b]

/-! ## The checks of a step (R97) -/

/-- The action's part of a step's checks, and the wait's. -/
def actionPasses (r : StepRecord) (patterns : Nat) : Bool :=
  match Action.ofCode r.action with
  | none => false
  | some .send => decide (r.textLength.toNat ≤ 24)
  | some .armTrigger => decide (r.patternA.toNat < patterns)
  | some _ => true

def waitPasses (r : StepRecord) (patterns : Nat) : Bool :=
  match Wait.ofCode r.wait with
  | none => false
  | some .match_ => decide (r.patternA.toNat < patterns)
  | some .matchEither => decide (r.patternA.toNat < patterns) && decide (r.patternB.toNat < patterns)
  | some .matchThen => decide (r.patternA.toNat < patterns) && decide (r.patternB.toNat < patterns)
  | some _ => true

theorem stepOk_eq (r : StepRecord) (steps patterns : Nat) : r.ok steps patterns =
    (actionPasses r patterns && waitPasses r patterns && r.success.ok steps && r.alternate.ok steps &&
      r.timedOut.ok steps && r.failure.ok steps) := rfl

theorem action_unknown {b : Byte} : Action.ofCode b = none ↔ ¬b.toNat ≤ 11 := by
  constructor
  · intro unknown most
    unfold Action.ofCode at unknown
    generalize b.toNat = v at *
    interval_cases v <;> cases unknown
  · intro beyond
    cases known : Action.ofCode b with
    | none => rfl
    | some a =>
      rw [action_ofCode_iff.1 known] at beyond
      exact absurd (by cases a <;> decide) beyond

theorem wait_unknown {b : Byte} : Wait.ofCode b = none ↔ ¬b.toNat ≤ 8 := by
  constructor
  · intro unknown most
    unfold Wait.ofCode at unknown
    generalize b.toNat = v at *
    interval_cases v <;> cases unknown
  · intro beyond
    cases known : Wait.ofCode b with
    | none => rfl
    | some a =>
      rw [wait_ofCode_iff.1 known] at beyond
      exact absurd (by cases a <;> decide) beyond

theorem actionPasses_iff (r : StepRecord) (patterns : Nat) : actionPasses r patterns = true ↔
    r.action.toNat ≤ 11 ∧ (r.action = 1 → r.textLength.toNat ≤ 24) ∧ (r.action = 8 → r.patternA.toNat < patterns) := by
  unfold actionPasses
  cases known : Action.ofCode r.action with
  | none => exact iff_of_false nofun fun ⟨most, _⟩ => action_unknown.1 known most
  | some a =>
    rw [action_ofCode_iff.1 known]
    cases a <;> simp [Action.code]

theorem waitPasses_iff (r : StepRecord) (patterns : Nat) : waitPasses r patterns = true ↔
    r.wait.toNat ≤ 8 ∧ (r.wait = 1 → r.patternA.toNat < patterns) ∧
    (r.wait = 2 ∨ r.wait = 3 → r.patternA.toNat < patterns ∧ r.patternB.toNat < patterns) := by
  unfold waitPasses
  cases known : Wait.ofCode r.wait with
  | none => exact iff_of_false nofun fun ⟨most, _⟩ => wait_unknown.1 known most
  | some a =>
    rw [wait_ofCode_iff.1 known]
    cases a <;> simp [Wait.code]

theorem exitOk_iff (e : StepExit) (steps : Nat) :
    e.ok steps = true ↔ e.kind = 0 ∧ e.value.toNat < steps ∨ e.kind = 1 := by
  unfold StepExit.ok
  rw [Bool.or_eq_true, Bool.and_eq_true, beq_iff_eq, beq_iff_eq, decide_eq_true_iff]

theorem stepOk_iff (r : StepRecord) (steps patterns : Nat) : r.ok steps patterns = true ↔
    actionPasses r patterns = true ∧ waitPasses r patterns = true ∧ r.success.ok steps = true ∧
    r.alternate.ok steps = true ∧ r.timedOut.ok steps = true ∧ r.failure.ok steps = true := by
  rw [stepOk_eq]
  simp only [Bool.and_eq_true, and_assoc]

/-! ## The judgement of an image (R97) -/

theorem patternLengthOk_iff (r : PatternRecord) :
    patternLengthOk r = true ↔ 1 ≤ r.length.toNat ∧ r.length.toNat ≤ 24 := decide_eq_true_iff

/-- No record fails, or the first that fails. -/
theorem firstBad_none {α : Type} {ok : α → Bool} {count : Nat} {rs : List α} :
    firstBad ok count rs = none ↔ ∀ r ∈ rs.take count, ok r = true := by
  unfold firstBad
  rw [List.findIdx?_eq_none_iff]
  exact forall₂_congr fun r _ => by rw [Bool.not_eq_false']

theorem firstBad_some {α : Type} {ok : α → Bool} {count i : Nat} {rs : List α} {r : α}
    (at_ : (rs.take count)[i]? = some r) (bad : ok r = false) (before : ∀ q ∈ rs.take i, ok q = true) :
    firstBad ok count rs = some i := by
  unfold firstBad
  obtain ⟨within, is⟩ := List.getElem?_eq_some_iff.1 at_
  refine List.findIdx?_eq_some_iff_getElem.2 ⟨within, ?_, fun j earlier => ?_⟩
  · rw [is, bad]
    rfl
  · have inside : j < rs.length := by
      rw [List.length_take] at within
      omega
    have member : (rs.take count)[j] ∈ rs.take i := by
      rw [List.getElem_take]
      exact List.mem_take_iff_getElem.2 ⟨j, by omega, rfl⟩
    rw [before _ member]
    exact nofun

/-- The checks of an image in their order. -/
theorem judgeImage_cases (sum : Word) (l : Loader) (b : Block) :
    let n := l.stepCount.toNat
    let p := l.patternCount.toNat
    (sum ≠ l.checksum → judgeImage sum l b = (.checksumBad, 0)) ∧
    (sum = l.checksum → ¬(1 ≤ n ∧ n ≤ 64 ∧ p ≤ 16) → judgeImage sum l b = (.countBad, 0)) ∧
    (sum = l.checksum → 1 ≤ n ∧ n ≤ 64 ∧ p ≤ 16 →
      (∀ i, firstBad patternLengthOk p b.patterns = some i → judgeImage sum l b = (.patternBad, i)) ∧
      (firstBad patternLengthOk p b.patterns = none →
        (∀ i, firstBad (fun r => r.ok n p) n b.steps = some i → judgeImage sum l b = (.stepBad, i)) ∧
        (firstBad (fun r => r.ok n p) n b.steps = none → judgeImage sum l b = (.loaded, 0)))) := by
  intro n p
  unfold judgeImage
  refine ⟨fun bad => if_pos bad, fun agrees bad => ?_, fun agrees counts => ?_⟩
  · rw [if_neg (not_not.2 agrees)]
    exact if_pos (by omega)
  · have within : ¬(l.stepCount.toNat < 1 ∨ 64 < l.stepCount.toNat ∨ 16 < l.patternCount.toNat) := by omega
    dsimp only
    rw [if_neg (not_not.2 agrees), if_neg within]
    refine ⟨fun i fails => ?_, fun passes => ⟨fun i fails => ?_, fun all => ?_⟩⟩
    · rw [fails]
    · rw [passes, fails]
    · rw [passes, all]

end

end Sys2Proof.Machine
end

section
/-! O55, concluded. What a completed read of the load in progress does (R96 to R98). -/

namespace Sys2Proof.Machine

section
variable {s t u : State} {l : Loader} {bs : List Byte} {k n : Nat}

/-- An image passes every check (R97). -/
def ImagePasses (sum : Word) (l : Loader) (b : Block) : Prop :=
  sum = l.checksum ∧ (1 ≤ l.stepCount.toNat ∧ l.stepCount.toNat ≤ 64 ∧ l.patternCount.toNat ≤ 16) ∧
    (∀ r ∈ b.patterns.take l.patternCount.toNat, 1 ≤ r.length.toNat ∧ r.length.toNat ≤ 24) ∧
    ∀ r ∈ b.steps.take l.stepCount.toNat, r.ok l.stepCount.toNat l.patternCount.toNat = true

/-- An image is LOADED exactly when it passes, and then the index is 0. -/
theorem judgeImage_loaded (sum : Word) (l : Loader) (b : Block) :
    ((judgeImage sum l b).1 = .loaded ↔ ImagePasses sum l b) ∧
    (ImagePasses sum l b → (judgeImage sum l b).2 = 0) := by
  obtain ⟨checksum, counts, records⟩ := judgeImage_cases sum l b
  by_cases agrees : sum = l.checksum
  swap
  · rw [checksum agrees]
    exact ⟨iff_of_false nofun fun passes => agrees passes.1, fun _ => rfl⟩
  by_cases within : 1 ≤ l.stepCount.toNat ∧ l.stepCount.toNat ≤ 64 ∧ l.patternCount.toNat ≤ 16
  swap
  · rw [counts agrees within]
    exact ⟨iff_of_false nofun fun passes => within passes.2.1, fun _ => rfl⟩
  obtain ⟨patternBad, rest⟩ := records agrees within
  cases patterns : firstBad patternLengthOk l.patternCount.toNat b.patterns with
  | some i =>
    have fails : ¬ImagePasses sum l b := fun ⟨_, _, good, _⟩ => by
      have none := firstBad_none.2 fun r member => (patternLengthOk_iff r).2 (good r member)
      cases patterns.symm.trans none
    rw [patternBad i patterns]
    exact ⟨iff_of_false nofun fails, fun passes => absurd passes fails⟩
  | none =>
    obtain ⟨stepBad, loaded⟩ := rest patterns
    cases steps : firstBad (fun r => r.ok l.stepCount.toNat l.patternCount.toNat) l.stepCount.toNat b.steps with
    | some i =>
      have fails : ¬ImagePasses sum l b := fun ⟨_, _, _, good⟩ => by
        cases steps.symm.trans (firstBad_none.2 good)
      rw [stepBad i steps]
      exact ⟨iff_of_false nofun fails, fun passes => absurd passes fails⟩
    | none =>
      rw [loaded steps]
      exact ⟨iff_of_true rfl ⟨agrees, within, fun r member => (patternLengthOk_iff r).1 (firstBad_none.1 patterns r member),
        firstBad_none.1 steps⟩, fun _ => rfl⟩

/-! ## The bytes of a transaction (R96) -/

/-- The Loader once a transaction's bytes have come. -/
def advanced (l : Loader) (bs : List Byte) : Loader := { l with
  next := l.next + 1
  stepCount := if l.next = 0 then wordAt bs 0 else l.stepCount
  patternCount := if l.next = 0 then wordAt bs 4 else l.patternCount
  checksum := if l.next = 0 then wordAt bs 8 else l.checksum }

/-- The block with the records of a transaction. -/
def filled (b : Block) (k : Nat) (bs : List Byte) : Block :=
  { b with steps := b.steps ++ loadSteps k bs, patterns := b.patterns ++ loadPatterns k bs }

/-- The state as the bytes of the load's next transaction have been kept, before a conclusion. -/
def State.bytesKept (s : State) (l : Loader) (bs : List Byte) : State :=
  let s := s.modBlock l.block fun b => filled b l.next bs
  { s with store := { s.store with
    loader := some (advanced l bs), sum := s.store.sum + sumWords (summedWords l.next bs) } }

theorem loadBytes_eq (s : State) (l : Loader) (bs : List Byte) : s.loadBytes l bs =
    if l.next = 36 then
      (s.bytesKept l bs).concludeLoad (advanced l bs)
        (judgeImage (s.bytesKept l bs).store.sum (advanced l bs) ((s.bytesKept l bs).block l.block)).1
        (judgeImage (s.bytesKept l bs).store.sum (advanced l bs) ((s.bytesKept l bs).block l.block)).2
    else s.bytesKept l bs := rfl

theorem bytesKept_says (s : State) (l : Loader) (bs : List Byte) :
    (s.bytesKept l bs).lines = s.lines ∧ (s.bytesKept l bs).common = s.common ∧ (s.bytesKept l bs).port = s.port ∧
    (s.bytesKept l bs).reports = s.reports ∧ (∀ c, c ≠ l.block → (s.bytesKept l bs).block c = s.block c) ∧
    (s.bytesKept l bs).block l.block = filled (s.block l.block) l.next bs ∧
    (s.bytesKept l bs).store.sum = s.store.sum + sumWords (summedWords l.next bs) ∧
    (s.bytesKept l bs).store.loader = some (advanced l bs) :=
  ⟨rfl, rfl, rfl, rfl, fun _ apart => block_modBlock_ne s (fun b => filled b l.next bs) apart,
    block_modBlock_self s l.block fun b => filled b l.next bs, rfl, rfl⟩

theorem concludeLoad_says (s : State) (l : Loader) (r : LoadResult) (i : Nat) :
    let u := s.concludeLoad l r i
    u.lines = s.lines ∧ u.port = s.port ∧ (∀ c, c ≠ l.block → u.block c = s.block c) ∧
    u.block l.block = (s.block l.block).concluded l r ∧ u.store.sum = s.store.sum ∧ u.store.loader = none ∧
    u.store.loadBlock = l.block.val ∧ u.store.loadResult = r ∧ u.store.loadIndex = i ∧
    u.reports = { s.reports with headerDirty := true, heldStation := s.reports.heldStation ||| 0x2 } :=
  ⟨rfl, rfl, fun _ apart => block_modBlock_ne s (fun b => b.concluded l r) apart,
    block_modBlock_self s l.block fun b => b.concluded l r, rfl, rfl, rfl, rfl, rfl, rfl⟩

/-- After transaction 0 the remembered counts and checksum stay. -/
theorem advanced_later (later : l.next ≠ 0) : (advanced l bs).stepCount = l.stepCount ∧
    (advanced l bs).patternCount = l.patternCount ∧ (advanced l bs).checksum = l.checksum :=
  ⟨if_neg later, if_neg later, if_neg later⟩

theorem exec_loadReadComplete {t : Transaction} (flying : s.port.inFlight = some t) (job : t.job = .load k)
    (full : bs.length = t.length) :
    (t.stale = true → exec (.loadReadComplete bs) s = .next s.completed.settlePort) ∧
    (t.stale = false → ∀ l, s.store.loader = some l →
      exec (.loadReadComplete bs) s = .next (s.completed.loadBytes l bs).settlePort) := by
  have row : exec (.loadReadComplete bs) s = execLoadReadComplete bs s := rfl
  unfold execLoadReadComplete at row
  rw [flying] at row
  dsimp only at row
  rw [job] at row
  dsimp only at row
  rw [if_pos full] at row
  refine ⟨fun stale => ?_, fun fresh l loading => ?_⟩
  · rw [row, stale]
    rfl
  · rw [row, fresh, loading]
    rfl

/-- A transaction before the last is kept, and the load goes on. -/
theorem loadBytes_more (more : l.next ≠ 36) : s.loadBytes l bs = s.bytesKept l bs := (loadBytes_eq s l bs).trans (if_neg more)

/-- After the last transaction the load concludes (R97, R98). -/
theorem loadBytes_last (last : l.next = 36) :
    let u := s.loadBytes l bs
    let sum := s.store.sum + sumWords (summedWords l.next bs)
    let b := filled (s.block l.block) l.next bs
    let j := judgeImage sum (advanced l bs) b
    u.lines = s.lines ∧ u.common = s.common ∧ u.port = s.port ∧ (∀ c, c ≠ l.block → u.block c = s.block c) ∧
    u.block l.block = b.concluded (advanced l bs) j.1 ∧ u.store.sum = sum ∧ u.store.loader = none ∧
    u.store.loadBlock = l.block.val ∧ u.store.loadResult = j.1 ∧ u.store.loadIndex = j.2 ∧
    u.reports = { s.reports with headerDirty := true, heldStation := s.reports.heldStation ||| 0x2 } := by
  intro u sum b j
  obtain ⟨lines, common, port, reports, others, own, sum', -⟩ := bytesKept_says s l bs
  have is : u = (s.bytesKept l bs).concludeLoad (advanced l bs) j.1 j.2 := by
    refine (loadBytes_eq s l bs).trans ((if_pos last).trans ?_)
    rw [own, sum']
  rw [is]
  generalize s.bytesKept l bs = v at *
  obtain ⟨lines', port', others', own', sum'', loader, block, result, index, reports'⟩ :=
    concludeLoad_says v (advanced l bs) j.1 j.2
  have common' := common_concludeLoad v (advanced l bs) j.1 j.2
  rw [reports] at reports'
  refine ⟨lines'.trans lines, common'.trans common, port'.trans port, fun c apart => (others' c apart).trans (others c apart),
    own'.trans (congrArg (fun k : Block => k.concluded (advanced l bs) j.1) own), sum''.trans sum', loader, block, result,
    index, reports'⟩

end

/-- Settles O55: the reads by their transaction, the conclusion by the first check that fails, and the image's layout. -/
theorem loadReads : Obligations.LoadReads := by
  refine ⟨fun k bs t s flying job full => ?reads, ⟨fun r steps patterns => ?checks, summedWords_eq⟩,
    ⟨fun k bs most _ => ⟨loadPatterns_eq bs most, loadSteps_eq bs most⟩, fun bs k => rfl⟩⟩
  case checks =>
    intro a b exitOk
    rw [stepOk_iff, actionPasses_iff, waitPasses_iff, exitOk_iff, exitOk_iff, exitOk_iff, exitOk_iff]
  case reads =>
    intro lengthOk port
    obtain ⟨staleRow, row⟩ := exec_loadReadComplete flying job full
    refine ⟨fun stale => ⟨s.completed, staleRow stale, rfl⟩, fun fresh l loading => ?_⟩
    intro b sum steps patterns first
    refine ⟨_, row fresh l loading, ?_⟩
    by_cases last : l.next = 36
    · obtain ⟨lines, common, port', others, own, sum', loader, block, result, index, reports⟩ :=
        loadBytes_last (s := s.completed) (bs := bs) last
      generalize s.completed.loadBytes l bs = u at *
      refine ⟨lines, common, port', others, fun more => absurd last more, fun _ => ?_⟩
      intro n p good
      obtain ⟨stepCount, patternCount, checksum⟩ := advanced_later (l := l) (bs := bs) (by rw [last]; decide)
      obtain ⟨loaded, zero⟩ := judgeImage_loaded sum (advanced l bs) (filled b l.next bs)
      obtain ⟨checksumBad, countBad, records⟩ := judgeImage_cases sum (advanced l bs) (filled b l.next bs)
      unfold ImagePasses at loaded zero
      rw [stepCount, patternCount, checksum] at loaded zero
      rw [stepCount, patternCount, checksum] at countBad records
      rw [checksum] at checksumBad
      have result' : u.store.loadResult = (judgeImage sum (advanced l bs) (filled b l.next bs)).1 := result
      have index' : u.store.loadIndex = (judgeImage sum (advanced l bs) (filled b l.next bs)).2 := index
      have own' : u.block l.block = (filled b l.next bs).concluded (advanced l bs)
        (judgeImage sum (advanced l bs) (filled b l.next bs)).1 := own
      generalize judgeImage sum (advanced l bs) (filled b l.next bs) = j at *
      have told : ∀ r i, j = (r, i) → u.store.loadResult = r ∧ u.store.loadIndex = i := fun r i is => by
        rw [result', index', is]
        exact ⟨rfl, rfl⟩
      refine ⟨loader, block, sum', reports, by rw [result']; exact loaded, fun passes => ?_, fun fails => ?_,
        fun passes => index'.trans (zero passes), fun differs => told _ _ (checksumBad differs),
        fun agrees counts => told _ _ (countBad agrees counts),
        fun agrees least most fits => ⟨fun i r at_ bad before => ?_, fun passes i r at_ bad before => ?_⟩⟩
      · rw [own', loaded.2 passes, Block.concluded, if_pos rfl, stepCount, patternCount]
        rfl
      · rw [own', Block.concluded, if_neg fun is => fails (loaded.1 is)]
        rfl
      · refine told _ _ ((records agrees ⟨least, most, fits⟩).1 i (firstBad_some (r := r) at_ ?_ fun q member => ?_))
        · exact Bool.eq_false_iff.2 fun ok => bad ((patternLengthOk_iff r).1 ok)
        · exact (patternLengthOk_iff q).2 (before q member)
      · have good' := firstBad_none.2 fun r member => (patternLengthOk_iff r).2 (passes r member)
        exact told _ _ (((records agrees ⟨least, most, fits⟩).2 good').1 i (firstBad_some (r := r) at_ bad before))
    · rw [loadBytes_more last]
      obtain ⟨lines, common, port', reports, others, own, sum', loader⟩ := bytesKept_says s.completed l bs
      exact ⟨lines, common, port', others, fun _ => ⟨reports, own, sum', loader⟩, fun is => absurd is last⟩

end Sys2Proof.Machine
end

section
/-! SUPPORT. Fields packed into words, and numbers laid out as bytes (13_record_layouts.md): what a reader of a part section
gets back. -/

namespace Sys2Proof.Machine

/-! ## Packed fields -/

/-- The bit at which field i of a list of fields begins. -/
def fieldOffset (fs : List (Nat × Nat)) (i : Nat) : Nat := ((fs.take i).map Prod.fst).sum

theorem packBits_cons (w v : Nat) (rest : List (Nat × Nat)) :
    packBits ((w, v) :: rest) = v % 2 ^ w + 2 ^ w * packBits rest := rfl

theorem fieldOffset_succ (w v : Nat) (rest : List (Nat × Nat)) (i : Nat) :
    fieldOffset ((w, v) :: rest) (i + 1) = w + fieldOffset rest i := by
  unfold fieldOffset
  rw [List.take_succ_cons, List.map_cons, List.sum_cons]

/-- The offsets depend on the widths alone. -/
theorem fieldOffset_of_widths {fs : List (Nat × Nat)} {ws : List Nat} (widths : fs.map Prod.fst = ws) (i : Nat) :
    fieldOffset fs i = (ws.take i).sum := by
  rw [fieldOffset, List.map_take, widths]

/-- Above the first field lie the others. -/
theorem packBits_tail (w v : Nat) (rest : List (Nat × Nat)) : packBits ((w, v) :: rest) / 2 ^ w = packBits rest := by
  rw [packBits_cons, Nat.add_mul_div_left _ _ (Nat.two_pow_pos w), Nat.div_eq_of_lt (Nat.mod_lt _ (Nat.two_pow_pos w)),
    Nat.zero_add]

/-- A field is read back at its offset. -/
theorem packBits_field {fs : List (Nat × Nat)} {i w v : Nat} (is : fs[i]? = some (w, v)) :
    packBits fs / 2 ^ fieldOffset fs i % 2 ^ w = v % 2 ^ w := by
  induction fs generalizing i with
  | nil => cases is
  | cons f rest ih =>
    obtain ⟨w', v'⟩ := f
    cases i with
    | zero =>
      cases is
      rw [packBits_cons]
      change (v % 2 ^ w + 2 ^ w * packBits rest) / 2 ^ 0 % 2 ^ w = _
      rw [Nat.pow_zero, Nat.div_one, Nat.add_mul_mod_self_left, Nat.mod_mod]
    | succ i =>
      rw [fieldOffset_succ, Nat.pow_add, ← Nat.div_div_eq_div_mul, packBits_tail]
      exact ih is

/-- Above the last field there is nothing. -/
theorem packBits_above (fs : List (Nat × Nat)) : packBits fs / 2 ^ fieldOffset fs fs.length = 0 := by
  induction fs with
  | nil => rfl
  | cons f rest ih =>
    obtain ⟨w, v⟩ := f
    rw [List.length_cons, fieldOffset_succ, Nat.pow_add, ← Nat.div_div_eq_div_mul, packBits_tail]
    exact ih

/-- A number cut to m bits keeps its bits below m. -/
theorem bits_of_mod {m lo w : Nat} (p : Nat) (fits : lo + w ≤ m) : p % 2 ^ m / 2 ^ lo % 2 ^ w = p / 2 ^ lo % 2 ^ w := by
  obtain ⟨d, rfl⟩ := Nat.exists_eq_add_of_le fits
  rw [Nat.add_assoc, Nat.pow_add, Nat.mod_mul_right_div_self, Nat.pow_add, Nat.mod_mul_right_mod]

/-- A field of a number of m bits is read back where it ends within them. -/
theorem field_read {fs : List (Nat × Nat)} {i w v m : Nat} (is : fs[i]? = some (w, v))
    (fits : fieldOffset fs i + w ≤ m) : packBits fs % 2 ^ m / 2 ^ fieldOffset fs i % 2 ^ w = v % 2 ^ w :=
  (bits_of_mod _ fits).trans (packBits_field is)

theorem field_above {fs : List (Nat × Nat)} {w m : Nat} (fits : fieldOffset fs fs.length + w ≤ m) :
    packBits fs % 2 ^ m / 2 ^ fieldOffset fs fs.length % 2 ^ w = 0 := by
  rw [bits_of_mod _ fits, packBits_above, Nat.zero_mod]

/-! ## Segments of bytes -/

/-- Numbers of the given counts of bytes, the first at offset 0, each behind the one before it. -/
def packBytes (segs : List (Nat × Nat)) : List Byte := segs.flatMap fun p => leBytes p.1 p.2

theorem packBytes_cons (n v : Nat) (rest : List (Nat × Nat)) :
    packBytes ((n, v) :: rest) = leBytes n v ++ packBytes rest := List.flatMap_cons

theorem leBytes_length (n v : Nat) : (leBytes n v).length = n := by
  induction n generalizing v with
  | zero => rfl
  | succ n ih => exact congrArg Nat.succ (ih (v / 256))

theorem byteAt_append_left {as : List Byte} {k : Nat} (inside : k < as.length) (bs : List Byte) :
    byteAt (as ++ bs) k = byteAt as k := by
  unfold byteAt
  rw [List.getD_append _ _ _ _ inside]

theorem byteAt_append_right {as : List Byte} {n : Nat} (length : as.length = n) (bs : List Byte) (k : Nat) :
    byteAt (as ++ bs) (n + k) = byteAt bs k := by
  unfold byteAt
  rw [List.getD_append_right _ _ _ _ (by omega), length, Nat.add_sub_cancel_left]

/-- Byte j of a number. -/
theorem byteAt_leBytes {n j : Nat} (v : Nat) (inside : j < n) :
    byteAt (leBytes n v) j = BitVec.ofNat 8 (v / 256 ^ j) := by
  induction n generalizing v j with
  | zero => exact absurd inside (Nat.not_lt_zero j)
  | succ n ih =>
    cases j with
    | zero => rw [Nat.pow_zero, Nat.div_one]; rfl
    | succ j =>
      change byteAt (leBytes n (v / 256)) j = _
      rw [ih _ (Nat.lt_of_succ_lt_succ inside), Nat.div_div_eq_div_mul, Nat.pow_succ']

theorem packBytes_length (segs : List (Nat × Nat)) : (packBytes segs).length = (segs.map Prod.fst).sum := by
  unfold packBytes
  rw [List.length_flatMap]
  exact congrArg List.sum (List.map_congr_left fun seg _ => leBytes_length seg.1 seg.2)

/-- Byte j of the number in segment i. -/
theorem byteAt_packBytes {segs : List (Nat × Nat)} {i n v j : Nat} (is : segs[i]? = some (n, v)) (inside : j < n) :
    byteAt (packBytes segs) (fieldOffset segs i + j) = BitVec.ofNat 8 (v / 256 ^ j) := by
  induction segs generalizing i with
  | nil => cases is
  | cons seg rest ih =>
    obtain ⟨n', v'⟩ := seg
    rw [packBytes_cons]
    cases i with
    | zero =>
      cases is
      change byteAt _ (0 + j) = _
      rw [Nat.zero_add, byteAt_append_left ((leBytes_length n v).symm ▸ inside), byteAt_leBytes v inside]
    | succ i =>
      rw [fieldOffset_succ, Nat.add_assoc, byteAt_append_right (leBytes_length n' v')]
      exact ih is

/-! ## Little-endian bytes -/

theorem byte_toNat (v : Nat) : (BitVec.ofNat 8 v).toNat = v % 2 ^ 8 := BitVec.toNat_ofNat ..

/-- Four bytes of a number make the word of it. -/
theorem word_of_bytes (v : Nat) : (BitVec.ofNat 8 (v / 256 ^ 3) ++ BitVec.ofNat 8 (v / 256 ^ 2) ++
    BitVec.ofNat 8 (v / 256 ^ 1) ++ BitVec.ofNat 8 (v / 256 ^ 0) : Word) = BitVec.ofNat 32 v := by
  refine BitVec.eq_of_toNat_eq ?_
  rw [BitVec.toNat_append, BitVec.toNat_append, BitVec.toNat_append, ← Nat.shiftLeft_add_eq_or_of_lt (BitVec.isLt _),
    ← Nat.shiftLeft_add_eq_or_of_lt (BitVec.isLt _), ← Nat.shiftLeft_add_eq_or_of_lt (BitVec.isLt _),
    Nat.shiftLeft_eq, Nat.shiftLeft_eq, Nat.shiftLeft_eq, BitVec.toNat_ofNat, BitVec.toNat_ofNat, BitVec.toNat_ofNat,
    BitVec.toNat_ofNat, BitVec.toNat_ofNat]
  omega

theorem ofNat_word (w : Word) : BitVec.ofNat 32 w.toNat = w := BitVec.ofNat_toNat ..

section
variable {segs : List (Nat × Nat)} {i k v : Nat}

/-- The word of a segment of four bytes. -/
theorem word_of_segment (is : segs[i]? = some (4, v)) (starts : fieldOffset segs i = k) :
    wordAt (packBytes segs) k = BitVec.ofNat 32 v := by
  have byte {j : Nat} (inside : j < 4) := starts ▸ byteAt_packBytes is inside
  have first : byteAt (packBytes segs) k = _ := byte (j := 0) (by decide)
  unfold wordAt
  rw [first, byte (j := 1) (by decide), byte (j := 2) (by decide), byte (j := 3) (by decide), word_of_bytes]

/-- The half-word of a segment of two bytes. -/
theorem half_of_segment (is : segs[i]? = some (2, v)) (starts : fieldOffset segs i = k) :
    (byteAt (packBytes segs) k).toNat + 256 * (byteAt (packBytes segs) (k + 1)).toNat = v % 2 ^ 16 := by
  have byte {j : Nat} (inside : j < 2) := starts ▸ byteAt_packBytes is inside
  have first : byteAt (packBytes segs) k = _ := byte (j := 0) (by decide)
  rw [first, byte (j := 1) (by decide), byte_toNat, byte_toNat]
  omega

/-- The byte of a segment of one byte. -/
theorem byte_of_segment (is : segs[i]? = some (1, v)) (starts : fieldOffset segs i = k) :
    byteAt (packBytes segs) k = BitVec.ofNat 8 v := by
  have byte := starts ▸ byteAt_packBytes is Nat.one_pos
  rwa [Nat.pow_zero, Nat.div_one] at byte

end

end Sys2Proof.Machine
end

section
/-! SUPPORT. A line's part section as segments (13_record_layouts.md, Line record; R195). -/

namespace Sys2Proof.Machine

section
variable {bs : List Byte} {fs : List (Nat × Nat)} {k w v lo : Nat}

/-! ## Fields of a section -/

/-- A field of a byte of a section. -/
theorem byte_field (is : byteAt bs k = BitVec.ofNat 8 (packBits fs)) (i : Nat) (at_ : fs[i]? = some (w, v))
    (starts : fieldOffset fs i = lo) (fits : lo + w ≤ 8) : (byteAt bs k).toNat / 2 ^ lo % 2 ^ w = v % 2 ^ w := by
  subst starts
  rw [is, byte_toNat]
  exact field_read at_ fits

/-- The bits of a byte above its last field. -/
theorem byte_above (is : byteAt bs k = BitVec.ofNat 8 (packBits fs)) (ends : fieldOffset fs fs.length = lo)
    (fits : lo + w ≤ 8) : (byteAt bs k).toNat / 2 ^ lo % 2 ^ w = 0 := by
  subst ends
  rw [is, byte_toNat]
  exact field_above fits

/-- A field of a half-word of a section. -/
theorem half_field (is : (byteAt bs k).toNat + 256 * (byteAt bs (k + 1)).toNat = packBits fs % 2 ^ 16) (i : Nat)
    (at_ : fs[i]? = some (w, v)) (starts : fieldOffset fs i = lo) (fits : lo + w ≤ 16) :
    ((byteAt bs k).toNat + 256 * (byteAt bs (k + 1)).toNat) / 2 ^ lo % 2 ^ w = v % 2 ^ w := by
  subst starts
  rw [is]
  exact field_read at_ fits

/-- A field of a word of a section. -/
theorem word_field (is : wordAt bs k = BitVec.ofNat 32 (packBits fs)) (i : Nat) (at_ : fs[i]? = some (w, v))
    (starts : fieldOffset fs i = lo) (fits : lo + w ≤ 32) : (wordAt bs k).toNat / 2 ^ lo % 2 ^ w = v % 2 ^ w := by
  subst starts
  rw [is, BitVec.toNat_ofNat]
  exact field_read at_ fits

end

/-! ## The segments -/

/-- The taken tag as it is written, and the result with it: an unset tag as 0 with result 15. -/
def lineTag (l : Line) : Nat × Nat := match l.takenTag with
  | none => (0, 15)
  | some t => (t.toNat, l.result.code)

/-- The fields of the word at 88: the adopted period and the attempts. -/
def periodFields (l : Line) : List (Nat × Nat) :=
  [(17, l.period), (3, l.det.attempts), (12, l.det.rejected.toNat)]

/-- The fields of the word at 92: the detection and the line's flags. -/
def detectFields (l : Line) : List (Nat × Nat) :=
  [(17, l.det.measured.getD 0), (4, l.det.adoption.code), (2, l.det.state.code), (3, l.det.outcome.code),
    (1, bitOf l.cap.half), (1, bitOf l.cap.lapped), (1, bitOf l.cap.draining), (1, bitOf l.flowHeld),
    (1, bitOf (l.condition == .spacing)), (1, bitOf l.claimSeen)]

/-- The fields of the word at 104: the trail's exits and the runner's state. -/
def trailFields (l : Line) : List (Nat × Nat) :=
  ((List.range 8).map fun k => (3, (trailEntry l k).exit.code)) ++
    [(4, l.run.trail.length), (1, bitOf (l.run.phase == .b)), (3, l.run.state.code)]

/-- The fields of the half-word at 121: the steps and the failure. -/
def stepFields (l : Line) : List (Nat × Nat) :=
  [(6, l.run.entry), (6, l.run.current), (3, l.run.failure.code), (1, bitOf l.clamped)]

/-- The numbers of a line's part section, in order, each with its count of bytes. -/
def lineSegments (l : Line) : List (Nat × Nat) :=
  [(4, (lineTag l).1), (4, l.cap.head.toNat), (4, l.cap.tail.toNat), (4, l.cap.taken.toNat), (4, l.cap.dropped),
    (4, l.sent.toNat), (4, l.fillSeen.toNat), (4, l.conditionTime.toNat), (4, l.breakTime.toNat),
    (4, l.det.concluded.toNat), (4, l.cap.matchTime.toNat), (4, l.out.time.toNat), (4, l.run.signalTime.toNat),
    (4, (lastOutcome l.run).time.toNat)] ++
  ((List.range 8).map fun k => (4, (trailEntry l k).time.toNat)) ++
  [(4, packBits (periodFields l)), (4, packBits (detectFields l))] ++
  ((List.range 8).map fun k => (1, (trailEntry l k).step)) ++
  [(4, packBits (trailFields l)), (2, l.garble), (2, l.out.width), (2, l.cap.post), (2, l.cap.remaining),
    (1, packBits [(4, (lineTag l).2), (2, l.status.code), (2, l.refusal.code)]),
    (1, packBits [(2, l.out.state.code), (2, l.out.ended.code), (2, l.owner.code), (2, l.ownerInForce.code)]),
    (1, packBits [(2, l.cap.trigger.code), (5, triggerLength l.cap)]), (1, formatInForce l.settings),
    (1, packBits [(4, l.run.block.val), (3, lastOutcomeKind l.run)]), (2, packBits (stepFields l)),
    (1, l.run.counter), (1, packBits [(5, l.run.textOffset), (3, (lastOutcome l.run).exit.code)]),
    (1, (lastOutcome l.run).code.toNat), (1, packBits [(6, (lastOutcome l.run).lastStep)]), (1, l.run.signalCode)]

/-- How many bytes each of them takes. -/
def lineWidths : List Nat :=
  List.replicate 24 4 ++ List.replicate 8 1 ++ [4, 2, 2, 2, 2, 1, 1, 1, 1, 1, 2, 1, 1, 1, 1, 1]

theorem lineSegments_widths (l : Line) : (lineSegments l).map Prod.fst = lineWidths := rfl

theorem packBytes_append (as bs : List (Nat × Nat)) : packBytes (as ++ bs) = packBytes as ++ packBytes bs :=
  List.flatMap_append

theorem packBytes_map {α : Type} (n : Nat) (f : α → Nat) (as : List α) :
    packBytes (as.map fun a => (n, f a)) = as.flatMap fun a => leBytes n (f a) := List.flatMap_map ..

theorem packBytes_nil : packBytes [] = [] := rfl

theorem linePart_eq (l : Line) : linePart l = packBytes (lineSegments l) := by
  unfold linePart lineSegments lineTag periodFields detectFields trailFields stepFields
  cases l.takenTag <;>
    simp only [packBytes_append, packBytes_map, packBytes_cons, packBytes_nil, List.append_assoc, List.append_nil]

section
variable {l : Line} {i k v : Nat}

theorem linePart_length (l : Line) : (linePart l).length = 128 := by
  rw [linePart_eq, packBytes_length, lineSegments_widths]
  rfl

theorem linePart_word (i : Nat) (is : (lineSegments l)[i]? = some (4, v)) (starts : (lineWidths.take i).sum = k) :
    wordAt (linePart l) k = BitVec.ofNat 32 v :=
  (linePart_eq l).symm ▸ word_of_segment is ((fieldOffset_of_widths (lineSegments_widths l) i).trans starts)

theorem linePart_half (i : Nat) (is : (lineSegments l)[i]? = some (2, v)) (starts : (lineWidths.take i).sum = k) :
    (byteAt (linePart l) k).toNat + 256 * (byteAt (linePart l) (k + 1)).toNat = v % 2 ^ 16 :=
  (linePart_eq l).symm ▸ half_of_segment is ((fieldOffset_of_widths (lineSegments_widths l) i).trans starts)

theorem linePart_byte (i : Nat) (is : (lineSegments l)[i]? = some (1, v)) (starts : (lineWidths.take i).sum = k) :
    byteAt (linePart l) k = BitVec.ofNat 8 v :=
  (linePart_eq l).symm ▸ byte_of_segment is ((fieldOffset_of_widths (lineSegments_widths l) i).trans starts)

/-- A word of the state is read back whole. -/
theorem linePart_stateWord (i : Nat) {w : Word} (is : (lineSegments l)[i]? = some (4, w.toNat))
    (starts : (lineWidths.take i).sum = k) : wordAt (linePart l) k = w :=
  (linePart_word i is starts).trans (ofNat_word w)

end

end Sys2Proof.Machine
end

section
/-! SUPPORT. What a line's part section holds, offset by offset (13_record_layouts.md, Line record; R195). -/

namespace Sys2Proof.Machine

/-! ## The codes fit their fields -/

theorem lineStatus_code_lt (c : LineStatus) : c.code < 2 ^ 2 := by cases c <;> decide
theorem lineRefusal_code_lt (c : LineRefusal) : c.code < 2 ^ 2 := by cases c <;> decide
theorem owner_code_lt (c : Owner) : c.code < 2 ^ 2 := by cases c <;> decide
theorem detectState_code_lt (c : DetectState) : c.code < 2 ^ 2 := by cases c <;> decide
theorem detectOutcome_code_lt (c : DetectOutcome) : c.code < 2 ^ 3 := by cases c <;> decide
theorem triggerState_code_lt (c : TriggerState) : c.code < 2 ^ 2 := by cases c <;> decide
theorem outputState_code_lt (c : OutputState) : c.code < 2 ^ 2 := by cases c <;> decide
theorem pulseEnd_code_lt (c : PulseEnd) : c.code < 2 ^ 2 := by cases c <;> decide
theorem trailExit_code_lt (c : TrailExit) : c.code < 2 ^ 3 := by cases c <;> decide
theorem outcomeKind_code_lt (c : OutcomeKind) : c.code < 2 ^ 3 := by cases c <;> decide
theorem failureReason_code_lt (c : FailureReason) : c.code < 2 ^ 3 := by cases c <;> decide
theorem reqResult_code_lt (c : ReqResult) : c.code < 2 ^ 4 := by cases c <;> decide

theorem runnerState_code_lt (c : RunnerState) : c.code < 2 ^ 3 := by
  cases c with
  | paused r => cases r <;> decide
  | _ => decide

theorem adoption_code_lt (c : Adoption) : c.code < 2 ^ 4 := by
  cases c with
  | entry e => exact Nat.lt_of_le_of_lt (Nat.succ_le_of_lt e.isLt) (by decide)
  | _ => decide

theorem bitOf_lt (b : Bool) : bitOf b < 2 ^ 1 := by cases b <;> decide

/-- A bit tells whether a value is the one named. -/
theorem bitOf_spacing (c : Condition) : bitOf (c == .spacing) = match c with | .marking => 0 | .spacing => 1 := by
  cases c <;> rfl

theorem bitOf_phase (p : MatchPhase) : bitOf (p == .b) = match p with | .a => 0 | .b => 1 := by cases p <;> rfl

section
variable (l : Line)

/-! ## Words and half-words -/

theorem linePart_tag_unset (unset : l.takenTag = none) :
    wordAt (linePart l) 0 = 0 ∧ (byteAt (linePart l) 116).toNat / 2 ^ 0 % 2 ^ 4 = 15 := by
  have tag : lineTag l = (0, 15) := by unfold lineTag; rw [unset]
  have word := linePart_word (l := l) 0 rfl rfl
  have field := byte_field (linePart_byte (l := l) (k := 116) 37 rfl rfl) (lo := 0) 0 rfl rfl (by decide)
  rw [tag] at word field
  exact ⟨word, field⟩

theorem linePart_tag_set {t : Word} (isSet : l.takenTag = some t) :
    wordAt (linePart l) 0 = t ∧ (byteAt (linePart l) 116).toNat / 2 ^ 0 % 2 ^ 4 = l.result.code := by
  have tag : lineTag l = (t.toNat, l.result.code) := by unfold lineTag; rw [isSet]
  have word := linePart_word (l := l) 0 rfl rfl
  have field := byte_field (linePart_byte (l := l) (k := 116) 37 rfl rfl) (lo := 0) 0 rfl rfl (by decide)
  rw [tag] at word field
  exact ⟨word.trans (ofNat_word t), field.trans (Nat.mod_eq_of_lt (reqResult_code_lt _))⟩

/-- The counts, the times and the signal's time. -/
theorem linePart_words :
    wordAt (linePart l) 4 = l.cap.head ∧ wordAt (linePart l) 8 = l.cap.tail ∧ wordAt (linePart l) 12 = l.cap.taken ∧
    (wordAt (linePart l) 16).toNat = l.cap.dropped % 2 ^ 32 ∧ wordAt (linePart l) 20 = l.sent ∧
    wordAt (linePart l) 24 = l.fillSeen ∧ wordAt (linePart l) 28 = l.conditionTime ∧
    wordAt (linePart l) 32 = l.breakTime ∧ wordAt (linePart l) 36 = l.det.concluded ∧
    wordAt (linePart l) 40 = l.cap.matchTime ∧ wordAt (linePart l) 44 = l.out.time ∧
    wordAt (linePart l) 48 = l.run.signalTime :=
  ⟨linePart_stateWord 1 rfl rfl, linePart_stateWord 2 rfl rfl, linePart_stateWord 3 rfl rfl,
    (congrArg BitVec.toNat (linePart_word 4 rfl rfl)).trans (BitVec.toNat_ofNat ..), linePart_stateWord 5 rfl rfl,
    linePart_stateWord 6 rfl rfl, linePart_stateWord 7 rfl rfl, linePart_stateWord 8 rfl rfl,
    linePart_stateWord 9 rfl rfl, linePart_stateWord 10 rfl rfl, linePart_stateWord 11 rfl rfl,
    linePart_stateWord 12 rfl rfl⟩

theorem linePart_halves :
    let half (k : Nat) : Nat := (byteAt (linePart l) k).toNat + 256 * (byteAt (linePart l) (k + 1)).toNat
    half 108 = l.garble % 65536 ∧ half 110 = l.out.width % 65536 ∧ half 112 = l.cap.post % 65536 ∧
    half 114 = l.cap.remaining % 65536 :=
  ⟨linePart_half 33 rfl rfl, linePart_half 34 rfl rfl, linePart_half 35 rfl rfl, linePart_half 36 rfl rfl⟩

/-! ## The fields of words -/

theorem linePart_88 :
    let w88 := (wordAt (linePart l) 88).toNat
    w88 / 2 ^ 0 % 2 ^ 17 = l.period % 2 ^ 17 ∧ w88 / 2 ^ 17 % 2 ^ 3 = l.det.attempts % 8 ∧
    w88 / 2 ^ 20 % 2 ^ 12 = l.det.rejected.toNat := by
  have is := linePart_word (l := l) (k := 88) 22 rfl rfl
  exact ⟨word_field is 0 rfl rfl (by decide), word_field is 1 rfl rfl (by decide),
    (word_field is (lo := 20) 2 rfl rfl (by decide)).trans (Nat.mod_eq_of_lt (BitVec.isLt _))⟩

theorem linePart_92 :
    let w92 := (wordAt (linePart l) 92).toNat
    let flag (x : Bool) : Nat := if x then 1 else 0
    w92 / 2 ^ 0 % 2 ^ 17 = l.det.measured.getD 0 % 2 ^ 17 ∧ w92 / 2 ^ 17 % 2 ^ 4 = l.det.adoption.code ∧
    w92 / 2 ^ 21 % 2 ^ 2 = l.det.state.code ∧ w92 / 2 ^ 23 % 2 ^ 3 = l.det.outcome.code ∧
    w92 / 2 ^ 26 % 2 ^ 1 = flag l.cap.half ∧ w92 / 2 ^ 27 % 2 ^ 1 = flag l.cap.lapped ∧
    w92 / 2 ^ 28 % 2 ^ 1 = flag l.cap.draining ∧ w92 / 2 ^ 29 % 2 ^ 1 = flag l.flowHeld ∧
    w92 / 2 ^ 30 % 2 ^ 1 = (match l.condition with | .marking => 0 | .spacing => 1) ∧
    w92 / 2 ^ 31 % 2 ^ 1 = flag l.claimSeen := by
  have is := linePart_word (l := l) (k := 92) 23 rfl rfl
  have whole {w v lo : Nat} (i : Nat) (at_ : (detectFields l)[i]? = some (w, v)) (starts : fieldOffset (detectFields l) i = lo)
      (fits : lo + w ≤ 32) (small : v < 2 ^ w) : (wordAt (linePart l) 92).toNat / 2 ^ lo % 2 ^ w = v :=
    (word_field is i at_ starts fits).trans (Nat.mod_eq_of_lt small)
  exact ⟨word_field is 0 rfl rfl (by decide), whole 1 rfl rfl (by decide) (adoption_code_lt _),
    whole 2 rfl rfl (by decide) (detectState_code_lt _), whole 3 rfl rfl (by decide) (detectOutcome_code_lt _),
    whole 4 rfl rfl (by decide) (bitOf_lt _), whole 5 rfl rfl (by decide) (bitOf_lt _),
    whole 6 rfl rfl (by decide) (bitOf_lt _), whole 7 rfl rfl (by decide) (bitOf_lt _),
    (whole (lo := 30) 8 rfl rfl (by decide) (bitOf_lt _)).trans (bitOf_spacing _), whole 9 rfl rfl (by decide) (bitOf_lt _)⟩

theorem linePart_104 :
    let w104 := (wordAt (linePart l) 104).toNat
    w104 / 2 ^ 24 % 2 ^ 4 = l.run.trail.length % 16 ∧
    w104 / 2 ^ 28 % 2 ^ 1 = (match l.run.phase with | .a => 0 | .b => 1) ∧
    w104 / 2 ^ 29 % 2 ^ 3 = l.run.state.code := by
  have is := linePart_word (l := l) (k := 104) 32 rfl rfl
  exact ⟨word_field is 8 rfl rfl (by decide),
    ((word_field is (lo := 28) 9 rfl rfl (by decide)).trans (Nat.mod_eq_of_lt (bitOf_lt _))).trans (bitOf_phase _),
    (word_field is (lo := 29) 10 rfl rfl (by decide)).trans (Nat.mod_eq_of_lt (runnerState_code_lt _))⟩

/-! ## The trail -/

/-- Entry k of the trail: its time, its step and its exit. -/
theorem linePart_trailEntry {k : Nat} (inTrail : k < 8) :
    wordAt (linePart l) (56 + 4 * k) = (trailEntry l k).time ∧
    (byteAt (linePart l) (96 + k)).toNat = (trailEntry l k).step % 256 ∧
    (wordAt (linePart l) 104).toNat / 2 ^ (3 * k) % 2 ^ 3 = (trailEntry l k).exit.code := by
  have times : (lineSegments l)[14 + k]? = some (4, (trailEntry l k).time.toNat) := by interval_cases k <;> rfl
  have steps : (lineSegments l)[24 + k]? = some (1, (trailEntry l k).step) := by interval_cases k <;> rfl
  have exits : (trailFields l)[k]? = some (3, (trailEntry l k).exit.code) := by interval_cases k <;> rfl
  refine ⟨linePart_stateWord _ times (by interval_cases k <;> rfl), ?_, ?_⟩
  · rw [linePart_byte _ steps (by interval_cases k <;> rfl)]
    exact byte_toNat _
  · have is := linePart_word (l := l) (k := 104) 32 rfl rfl
    exact (word_field is k exits (by interval_cases k <;> rfl) (by omega)).trans
      (Nat.mod_eq_of_lt (trailExit_code_lt _))

/-- The entry of the trail that the section shows: the trail's own, and past its length an empty one. -/
theorem eq_trailEntry {k : Nat} {e : TrailEntry} (held : k < l.run.trail.length → l.run.trail[k]? = some e)
    (past : l.run.trail.length ≤ k → e = ⟨0, .success, 0⟩) : e = trailEntry l k := by
  unfold trailEntry
  rw [List.getD_eq_getElem?_getD]
  rcases Nat.lt_or_ge k l.run.trail.length with inside | outside
  · rw [held inside, Option.getD_some]
  · rw [List.getElem?_eq_none outside, Option.getD_none, past outside]

end

end Sys2Proof.Machine
end

section
/-! SUPPORT. The bytes at the end of a line's part section (13_record_layouts.md, Line record; R195, R196). -/

namespace Sys2Proof.Machine

section
variable (l : Line)

/-! ## The fields of bytes -/

/-- A field that holds its value whole. -/
theorem byte_field_whole {bs : List Byte} {fs : List (Nat × Nat)} {k w v lo : Nat}
    (is : byteAt bs k = BitVec.ofNat 8 (packBits fs)) (i : Nat) (at_ : fs[i]? = some (w, v))
    (starts : fieldOffset fs i = lo) (fits : lo + w ≤ 8) (small : v < 2 ^ w) :
    (byteAt bs k).toNat / 2 ^ lo % 2 ^ w = v :=
  (byte_field is i at_ starts fits).trans (Nat.mod_eq_of_lt small)

/-- The status, the refusal, the output and the owners. -/
theorem linePart_116 :
    let bits (k lo width : Nat) : Nat := (byteAt (linePart l) k).toNat / 2 ^ lo % 2 ^ width
    bits 116 4 2 = l.status.code ∧ bits 116 6 2 = l.refusal.code ∧ bits 117 0 2 = l.out.state.code ∧
    bits 117 2 2 = l.out.ended.code ∧ bits 117 4 2 = l.owner.code ∧ bits 117 6 2 = l.ownerInForce.code := by
  have status := linePart_byte (l := l) (k := 116) 37 rfl rfl
  have output := linePart_byte (l := l) (k := 117) 38 rfl rfl
  exact ⟨byte_field_whole status 1 rfl rfl (by decide) (lineStatus_code_lt _),
    byte_field_whole status 2 rfl rfl (by decide) (lineRefusal_code_lt _),
    byte_field_whole output 0 rfl rfl (by decide) (outputState_code_lt _),
    byte_field_whole output 1 rfl rfl (by decide) (pulseEnd_code_lt _),
    byte_field_whole output 2 rfl rfl (by decide) (owner_code_lt _),
    byte_field_whole output 3 rfl rfl (by decide) (owner_code_lt _)⟩

theorem triggerLength_mod (c : Capture) :
    triggerLength c % 2 ^ 5 = match c.pattern with | none => 0 | some p => p.length % 32 := by
  unfold triggerLength
  cases c.pattern <;> rfl

/-- The trigger and the length of its pattern. -/
theorem linePart_118 :
    let bits (lo width : Nat) : Nat := (byteAt (linePart l) 118).toNat / 2 ^ lo % 2 ^ width
    bits 0 2 = l.cap.trigger.code ∧
    bits 2 5 = (match l.cap.pattern with | none => 0 | some p => p.length % 32) ∧ bits 7 1 = 0 := by
  have is := linePart_byte (l := l) (k := 118) 39 rfl rfl
  exact ⟨byte_field_whole is 0 rfl rfl (by decide) (triggerState_code_lt _),
    (byte_field is (lo := 2) 1 rfl rfl (by decide)).trans (triggerLength_mod _), byte_above is rfl (by decide)⟩

/-- Format In Force, as the sum of its fields. -/
theorem formatInForce_eq (st : Settings) :
    formatInForce st % 2 ^ 8 = (match st.dataBits with | .seven => 0 | .eight => 1) + 2 * st.parity.code
      + 8 * (match st.stopBits with | .one => 0 | .two => 1) + 16 * (match st.rateMode with | .fixed => 0 | _ => 1)
      + 32 * (match st.flow with | .none => 0 | _ => 1) + 64 * (if st.rawAllowed then 1 else 0)
      + 128 * (match st.captureMode with | .hold => 0 | .roll => 1) := by
  have data : bitOf (st.dataBits == .eight) = match st.dataBits with | .seven => 0 | .eight => 1 := by
    cases st.dataBits <;> rfl
  have stop : bitOf (st.stopBits == .two) = match st.stopBits with | .one => 0 | .two => 1 := by
    cases st.stopBits <;> rfl
  have rate : bitOf (st.rateMode == .detectOnEnable) = match st.rateMode with | .fixed => 0 | _ => 1 := by
    cases st.rateMode <;> rfl
  have flow : bitOf (st.flow == .xonxoff) = match st.flow with | .none => 0 | _ => 1 := by cases st.flow <;> rfl
  have mode : bitOf (st.captureMode == .roll) = match st.captureMode with | .hold => 0 | .roll => 1 := by
    cases st.captureMode <;> rfl
  have parity : st.parity.code < 2 ^ 2 := by cases st.parity <;> decide
  have raw : bitOf st.rawAllowed = if st.rawAllowed then 1 else 0 := rfl
  rw [← data, ← stop, ← rate, ← flow, ← mode, ← raw]
  have bounds := And.intro (bitOf_lt (st.dataBits == .eight)) (And.intro (bitOf_lt (st.stopBits == .two))
    (And.intro (bitOf_lt (st.rateMode == .detectOnEnable)) (And.intro (bitOf_lt (st.flow == .xonxoff))
      (And.intro (bitOf_lt st.rawAllowed) (bitOf_lt (st.captureMode == .roll))))))
  unfold formatInForce
  simp only [packBits]
  omega

theorem linePart_119 : (byteAt (linePart l) 119).toNat = formatInForce l.settings % 2 ^ 8 := by
  rw [linePart_byte (k := 119) 40 rfl rfl]
  exact byte_toNat _

/-- The runner's block, steps, counter, text offset and signal. -/
theorem linePart_120 :
    let byte (k : Nat) : Nat := (byteAt (linePart l) k).toNat
    let bits (v lo width : Nat) : Nat := v / 2 ^ lo % 2 ^ width
    let half (k : Nat) : Nat := byte k + 256 * byte (k + 1)
    bits (byte 120) 0 4 = l.run.block.val ∧ bits (byte 120) 7 1 = 0 ∧ bits (half 121) 0 6 = l.run.entry % 64 ∧
    bits (half 121) 6 6 = l.run.current % 64 ∧ bits (half 121) 12 3 = l.run.failure.code ∧
    bits (half 121) 15 1 = (if l.clamped then 1 else 0) ∧ byte 123 = l.run.counter % 256 ∧
    bits (byte 124) 0 5 = l.run.textOffset % 32 ∧ bits (byte 126) 6 2 = 0 ∧ byte 127 = l.run.signalCode % 256 := by
  have block := linePart_byte (l := l) (k := 120) 41 rfl rfl
  have steps := linePart_half (l := l) (k := 121) 42 rfl rfl
  exact ⟨byte_field_whole block 0 rfl rfl (by decide) l.run.block.isLt, byte_above block rfl (by decide),
    half_field steps 0 rfl rfl (by decide), half_field steps 1 rfl rfl (by decide),
    (half_field steps (lo := 12) 2 rfl rfl (by decide)).trans (Nat.mod_eq_of_lt (failureReason_code_lt _)),
    (half_field steps (lo := 15) 3 rfl rfl (by decide)).trans (Nat.mod_eq_of_lt (bitOf_lt _)),
    (congrArg BitVec.toNat (linePart_byte 43 rfl rfl)).trans (byte_toNat _),
    byte_field (linePart_byte 44 rfl rfl) 0 rfl rfl (by decide), byte_above (linePart_byte 46 rfl rfl) rfl (by decide),
    (congrArg BitVec.toNat (linePart_byte 47 rfl rfl)).trans (byte_toNat _)⟩

/-! ## The last outcome -/

/-- Where the last outcome is read. -/
theorem linePart_outcome :
    let bits (k lo width : Nat) : Nat := (byteAt (linePart l) k).toNat / 2 ^ lo % 2 ^ width
    bits 120 4 3 = lastOutcomeKind l.run % 2 ^ 3 ∧ wordAt (linePart l) 52 = (lastOutcome l.run).time ∧
    bits 124 5 3 = (lastOutcome l.run).exit.code ∧ byteAt (linePart l) 125 = (lastOutcome l.run).code ∧
    bits 126 0 6 = (lastOutcome l.run).lastStep % 64 :=
  ⟨byte_field (linePart_byte 41 rfl rfl) 1 rfl rfl (by decide), linePart_stateWord 13 rfl rfl,
    byte_field_whole (linePart_byte 44 rfl rfl) 1 rfl rfl (by decide) (trailExit_code_lt _),
    (linePart_byte 45 rfl rfl).trans (BitVec.ofNat_toNat ..), byte_field (linePart_byte 46 rfl rfl) 0 rfl rfl (by decide)⟩

/-- With no run ended its fields are 0. -/
theorem linePart_noOutcome (none : l.run.last = none) :
    let bits (k lo width : Nat) : Nat := (byteAt (linePart l) k).toNat / 2 ^ lo % 2 ^ width
    bits 120 4 3 = 0 ∧ wordAt (linePart l) 52 = 0 ∧ bits 124 5 3 = 0 ∧ (byteAt (linePart l) 125).toNat = 0 ∧
    bits 126 0 6 = 0 := by
  have last : lastOutcome l.run = ⟨.completed, 0, 0, .success, 0⟩ := by unfold lastOutcome; rw [none, Option.getD_none]
  have kind : lastOutcomeKind l.run = 0 := by unfold lastOutcomeKind; rw [none, Option.map_none, Option.getD_none]
  obtain ⟨kinds, time, exit, code, step⟩ := linePart_outcome l
  rw [last] at time exit code step
  rw [kind] at kinds
  exact ⟨kinds, time, exit, congrArg BitVec.toNat code, step⟩

theorem linePart_someOutcome {o : RunOutcome} (some : l.run.last = some o) :
    let bits (k lo width : Nat) : Nat := (byteAt (linePart l) k).toNat / 2 ^ lo % 2 ^ width
    bits 120 4 3 = o.kind.code ∧ wordAt (linePart l) 52 = o.time ∧ bits 124 5 3 = o.exit.code ∧
    byteAt (linePart l) 125 = o.code ∧ bits 126 0 6 = o.lastStep % 64 := by
  have last : lastOutcome l.run = o := by unfold lastOutcome; rw [some, Option.getD_some]
  have kind : lastOutcomeKind l.run = o.kind.code := by
    unfold lastOutcomeKind
    rw [some, Option.map_some, Option.getD_some]
  obtain ⟨kinds, time, exit, code, step⟩ := linePart_outcome l
  rw [last] at time exit code step
  rw [kind] at kinds
  exact ⟨kinds.trans (Nat.mod_eq_of_lt (outcomeKind_code_lt _)), time, exit, code, step⟩

end

end Sys2Proof.Machine
end

section
/-! SUPPORT. The header's part section, offset by offset (13_record_layouts.md, Station header; R173). -/

namespace Sys2Proof.Machine

/-! ## The segments -/

/-- The station tag as it is written, and the result with it: an unset tag as 0 with result 255. -/
def stationTag (s : State) : Nat × Nat := match s.scan.tag with
  | none => (0, 255)
  | some t => (t.toNat, s.scan.result.code)

/-- The numbers of a block's entry. -/
def blockSegments (b : Block) : List (Nat × Nat) :=
  [(1, b.state.code), (1, b.stepCount), (1, b.patternCount), (1, b.useCount)]

/-- The numbers of the header's part section, in order, each with its count of bytes. -/
def headerSegments (s : State) : List (Nat × Nat) :=
  [(1, s.ctl.shownPart.code), (1, s.linesInUse), (1, s.store.loadResult.code), (1, s.store.loadBlock),
    (4, s.lockSet.toNat), (4, s.scan.interval), (4, s.scan.lastTime.toNat), (4, (stationTag s).1),
    (1, (stationTag s).2), (1, s.store.loadIndex), (2, 0)] ++
  ((List.finRange 16).flatMap fun k => blockSegments (s.block k)) ++ [(40, 0)]

/-- How many bytes each of them takes. -/
def headerWidths : List Nat := [1, 1, 1, 1, 4, 4, 4, 4, 1, 1, 2] ++ List.replicate 64 1 ++ [40]

theorem headerSegments_widths (s : State) : (headerSegments s).map Prod.fst = headerWidths := rfl

/-- The blocks, from the first to the last. -/
theorem blocks_toList (s : State) : s.store.blocks.toList = (List.finRange 16).map s.block := by
  refine List.ext_getElem (by simp) fun i _ _ => ?_
  simp [State.block, Vector.get_eq_getElem]

theorem packBytes_block (b : Block) : packBytes (blockSegments b) = blockEntry b := by
  unfold blockSegments blockEntry
  simp only [packBytes_cons, packBytes_nil, List.append_assoc, List.append_nil]

theorem packBytes_flatMap {α : Type} (f : α → List (Nat × Nat)) (as : List α) :
    packBytes (as.flatMap f) = as.flatMap fun a => packBytes (f a) := List.flatMap_assoc

theorem headerPart_eq (s : State) : headerPart s = packBytes (headerSegments s) := by
  unfold headerPart headerSegments stationTag
  rw [blocks_toList, List.flatMap_map]
  cases s.scan.tag <;>
    simp only [packBytes_append, packBytes_flatMap, packBytes_block, packBytes_cons, packBytes_nil, List.append_assoc,
      List.append_nil]

section
variable {s : State} {i k v n : Nat}

theorem headerPart_length (s : State) : (headerPart s).length = 128 := by
  rw [headerPart_eq, packBytes_length, headerSegments_widths]
  rfl

theorem headerPart_word (i : Nat) (is : (headerSegments s)[i]? = some (4, v)) (starts : (headerWidths.take i).sum = k) :
    wordAt (headerPart s) k = BitVec.ofNat 32 v :=
  (headerPart_eq s).symm ▸ word_of_segment is ((fieldOffset_of_widths (headerSegments_widths s) i).trans starts)

theorem headerPart_byte (i : Nat) (is : (headerSegments s)[i]? = some (1, v)) (starts : (headerWidths.take i).sum = k) :
    (byteAt (headerPart s) k).toNat = v % 256 := by
  rw [headerPart_eq, byte_of_segment is ((fieldOffset_of_widths (headerSegments_widths s) i).trans starts)]
  exact byte_toNat v

/-- The bytes of a reserved segment are 0. -/
theorem headerPart_reserved (i : Nat) (is : (headerSegments s)[i]? = some (n, 0))
    (starts : (headerWidths.take i).sum = k) {j : Nat} (inside : j < n) : byteAt (headerPart s) (k + j) = 0 := by
  rw [headerPart_eq, ← starts, ← fieldOffset_of_widths (headerSegments_widths s) i, byteAt_packBytes is inside,
    Nat.zero_div]
  rfl

end

/-! ## The codes fit a byte -/

theorem partState_code_lt (c : PartState) : c.code < 256 := by cases c <;> decide
theorem loadResult_code_lt (c : LoadResult) : c.code < 256 := by cases c <;> decide
theorem stationResult_code_lt (c : StationResult) : c.code < 256 := by cases c <;> decide
theorem blockState_code_lt (c : BlockState) : c.code < 256 := by cases c <;> decide

section
variable (s : State)

/-! ## The station -/

theorem headerPart_station :
    let byte (k : Nat) : Nat := (byteAt (headerPart s) k).toNat
    byte 0 = s.ctl.shownPart.code ∧ byte 1 = s.linesInUse % 256 ∧ byte 2 = s.store.loadResult.code ∧
    byte 3 = s.store.loadBlock % 256 ∧ wordAt (headerPart s) 4 = s.lockSet ∧
    (wordAt (headerPart s) 8).toNat = s.scan.interval % 2 ^ 32 ∧ wordAt (headerPart s) 12 = s.scan.lastTime :=
  ⟨(headerPart_byte 0 rfl rfl).trans (Nat.mod_eq_of_lt (partState_code_lt _)), headerPart_byte 1 rfl rfl,
    (headerPart_byte 2 rfl rfl).trans (Nat.mod_eq_of_lt (loadResult_code_lt _)), headerPart_byte 3 rfl rfl,
    (headerPart_word 4 rfl rfl).trans (ofNat_word _),
    (congrArg BitVec.toNat (headerPart_word 5 rfl rfl)).trans (BitVec.toNat_ofNat ..),
    (headerPart_word 6 rfl rfl).trans (ofNat_word _)⟩

theorem headerPart_tag_unset (unset : s.scan.tag = none) :
    wordAt (headerPart s) 16 = 0 ∧ (byteAt (headerPart s) 20).toNat = 255 := by
  have tag : stationTag s = (0, 255) := by unfold stationTag; rw [unset]
  have word := headerPart_word (s := s) 7 rfl rfl
  have result := headerPart_byte (s := s) (k := 20) 8 rfl rfl
  rw [tag] at word result
  exact ⟨word, result⟩

theorem headerPart_tag_set {t : Word} (isSet : s.scan.tag = some t) :
    wordAt (headerPart s) 16 = t ∧ (byteAt (headerPart s) 20).toNat = s.scan.result.code := by
  have tag : stationTag s = (t.toNat, s.scan.result.code) := by unfold stationTag; rw [isSet]
  have word := headerPart_word (s := s) 7 rfl rfl
  have result := headerPart_byte (s := s) (k := 20) 8 rfl rfl
  rw [tag] at word result
  exact ⟨word.trans (ofNat_word t), result.trans (Nat.mod_eq_of_lt (stationResult_code_lt _))⟩

theorem headerPart_loadIndex : (byteAt (headerPart s) 21).toNat = s.store.loadIndex % 256 := headerPart_byte 9 rfl rfl

/-- Number j of block k's entry. -/
theorem headerSegments_block (k : BlockNo) {j : Nat} (inEntry : j < 4) :
    (headerSegments s)[11 + 4 * k.val + j]? = (blockSegments (s.block k))[j]? ∧
    (headerWidths.take (11 + 4 * k.val + j)).sum = 24 + 4 * k.val + j := by
  interval_cases j <;> fin_cases k <;> exact ⟨rfl, rfl⟩

theorem headerPart_block (k : BlockNo) :
    let byte (k : Nat) : Nat := (byteAt (headerPart s) k).toNat
    byte (24 + 4 * k.val) = (s.block k).state.code ∧ byte (25 + 4 * k.val) = (s.block k).stepCount % 256 ∧
    byte (26 + 4 * k.val) = (s.block k).patternCount % 256 ∧ byte (27 + 4 * k.val) = (s.block k).useCount % 256 := by
  have number {j at_ v : Nat} (inEntry : j < 4) (is : (blockSegments (s.block k))[j]? = some (1, v))
      (offset : 24 + 4 * k.val + j = at_) : (byteAt (headerPart s) at_).toNat = v % 256 := by
    obtain ⟨segment, starts⟩ := headerSegments_block s k inEntry
    exact headerPart_byte _ (segment.trans is) (starts.trans offset)
  exact ⟨(number (j := 0) (by omega) rfl (by omega)).trans (Nat.mod_eq_of_lt (blockState_code_lt _)),
    number (j := 1) (by omega) rfl (by omega), number (j := 2) (by omega) rfl (by omega),
    number (j := 3) (by omega) rfl (by omega)⟩

/-- What is reserved is 0. -/
theorem headerPart_zero {k : Nat} (reserved : k = 22 ∨ k = 23 ∨ 88 ≤ k) : byteAt (headerPart s) k = 0 := by
  have spare : ∀ j < 2, byteAt (headerPart s) (22 + j) = 0 := fun j => headerPart_reserved 10 rfl rfl
  have tail : ∀ j < 40, byteAt (headerPart s) (88 + j) = 0 := fun j => headerPart_reserved 75 rfl rfl
  rcases reserved with rfl | rfl | past
  · exact spare 0 (by decide)
  · exact spare 1 (by decide)
  · obtain ⟨j, rfl⟩ := Nat.exists_eq_add_of_le past
    rcases Nat.lt_or_ge j 40 with inside | outside
    · exact tail j inside
    · exact List.getD_eq_default _ _ (by rw [headerPart_length]; omega)

end

end Sys2Proof.Machine
end

section
/-! SUPPORT. O54: the report writes, the part sections and the registers. -/

namespace Sys2Proof.Machine

/-! ## A write is formed and completes -/

theorem startJob_reportLine (s : State) (n : LineNo) :
    (s.startJob (.reportLine n)).reports = { s.reports with
      dirty := s.reports.dirty.set n.val false n.isLt, position := .line n
      carried := s.reports.held.get n, carriedStation := 0, held := s.reports.held.set n.val 0 n.isLt } := rfl

theorem startJob_reportHeader (s : State) :
    (s.startJob .reportHeader).reports = { s.reports with
      headerDirty := false, position := .header
      carried := 0, carriedStation := s.reports.heldStation, heldStation := 0 } := rfl

theorem reportWriteComplete_line {s : State} {t : Transaction} {n : LineNo} (inFlight : s.port.inFlight = some t)
    (job : t.job = .reportLine n) :
    exec .reportWriteComplete s = .next (s.completed.releaseLine n).settlePort := by
  change execReportWriteComplete s = _
  unfold execReportWriteComplete
  simp only [inFlight, job] <;> rfl

theorem reportWriteComplete_header {s : State} {t : Transaction} (inFlight : s.port.inFlight = some t)
    (job : t.job = .reportHeader) : exec .reportWriteComplete s = .next s.completed.releaseStation.settlePort := by
  change execReportWriteComplete s = _
  unfold execReportWriteComplete
  simp only [inFlight, job] <;> rfl

/-- The final header write of a stop makes the part HALTED. -/
theorem releaseStation_ctl_final {s : State} (stopping : s.ctl.part = .stopping) (windUp : s.ctl.windUp = true) :
    s.releaseStation.ctl = { s.ctl with part := .halted, windUp := false } :=
  if_pos ⟨stopping, windUp⟩

theorem releaseStation_ctl_other {s : State} (other : s.ctl.part ≠ .stopping ∨ s.ctl.windUp = false) :
    s.releaseStation.ctl = s.ctl :=
  if_neg fun ⟨stopping, windUp⟩ => other.elim (· stopping) fun off => Bool.noConfusion (windUp.symm.trans off)

/-! ## Registers -/

/-- The word of a register where the part answers. -/
theorem read_word {s : State} (answers : s.ctl.inReset = false) (k : Nat) :
    (s.regRead .word k).map BitVec.toNat = some (s.regWord k).toNat := by
  rw [regRead_answered s .word k answers]
  rfl

theorem regWord_past (s : State) {k : Nat} (past : 0x14 < k) : s.regWord k = 0 := by
  unfold State.regWord
  split
  case h_7 => rfl
  all_goals omega

theorem regWord_control (s : State) :
    (s.regWord 0x08).toNat = (if s.ctl.part = .starting ∨ s.ctl.part = .running then 1 else 0)
      + 2 * (if s.ctl.intEnable then 1 else 0) + 256 * s.ctl.part.code := by
  change (BitVec.ofNat 32 (packBits [(1, bitOf (s.ctl.part == .starting || s.ctl.part == .running)),
    (1, bitOf s.ctl.intEnable), (6, 0), (2, s.ctl.part.code)])).toNat = _
  cases s.ctl.part <;> cases s.ctl.intEnable <;> rfl

theorem clientCode_lt (c : Option Client) : clientCode c < 2 ^ 3 := by
  cases c with
  | none => decide
  | some c => cases c <;> decide

theorem faultKind_code_lt (c : FaultKind) : c.code < 2 ^ 3 := by cases c <;> decide

theorem regWord_fault (s : State) :
    (s.regWord 0x10).toNat = (if s.port.flag then 1 else 0) + 16 * s.port.faultKind.code
      + 256 * clientCode s.port.faultClient := by
  have flag := bitOf_lt s.port.flag
  have kind := faultKind_code_lt s.port.faultKind
  have client := clientCode_lt s.port.faultClient
  change (BitVec.ofNat 32 (packBits [(1, bitOf s.port.flag), (3, 0), (3, s.port.faultKind.code), (1, 0),
    (3, clientCode s.port.faultClient)])).toNat = bitOf s.port.flag + _ + _
  rw [BitVec.toNat_ofNat]
  simp only [packBits]
  omega

end Sys2Proof.Machine
end

section
/-! SUPPORT. O54 settled. -/

namespace Sys2Proof.Machine

/-- The registers where the part answers. -/
theorem registers_read {s : State} (answers : s.ctl.inReset = false) :
    let flag (x : Bool) : Nat := if x then 1 else 0
    let read (k : Nat) : Option Nat := (s.regRead .word k).map BitVec.toNat
    read 0x00 = some (0x0A32 + 1 * 2 ^ 16 + 32 * 2 ^ 20 + 16 * 2 ^ 26) ∧ read 0x04 = some s.ctl.base.toNat ∧
    read 0x08 = some ((if s.ctl.part = .starting ∨ s.ctl.part = .running then 1 else 0)
      + 2 * flag s.ctl.intEnable + 256 * s.ctl.part.code) ∧
    read 0x10 = some (flag s.port.flag + 16 * s.port.faultKind.code + 256 * clientCode s.port.faultClient) ∧
    read 0x14 = some s.port.faultAddr.toNat ∧ (∀ k : Nat, 0x14 < k → read k = some 0) ∧
    ∀ (lane : Lane) (k : Nat), (s.regRead lane k).map BitVec.toNat = (read k).map fun w => match lane with
      | .word => w
      | .half upper => if upper then w / 2 ^ 16 else w % 2 ^ 16
      | .byte b => w / 2 ^ (8 * b.val) % 2 ^ 8 := by
  refine ⟨read_word answers 0, read_word answers 4, ?control, ?fault, read_word answers 0x14, ?past, ?lanes⟩
  case control => exact (read_word answers 8).trans (congrArg some (regWord_control s))
  case fault => exact (read_word answers 0x10).trans (congrArg some (regWord_fault s))
  case past => exact fun k past => (read_word answers k).trans (by rw [regWord_past s past]; rfl)
  case lanes =>
    intro lane k
    beta_reduce
    rw [read_word answers k, regRead_answered s lane k answers, Option.map_some, Option.map_some]
    exact congrArg some (laneOf_toNat lane _)

/-- Settles O54: a part section is its segments' numbers one behind the other, a number of fields their packing, so
each offset reads back what was written there. -/
theorem reportWrite : Obligations.ReportWrite := by
  unfold Obligations.ReportWrite
  refine ⟨⟨?line, ?header, ?completes⟩, ?linePart, ?headerPart, ?codes⟩
  case line => exact fun n s => ⟨rfl, linePart_length _, startJob_reportLine s n⟩
  case header => exact fun s => ⟨rfl, headerPart_length s, startJob_reportHeader s⟩
  case completes =>
    intro t s inFlight port
    refine ⟨fun n job => ⟨_, reportWriteComplete_line inFlight job, rfl⟩, fun job => ?_⟩
    exact ⟨_, reportWriteComplete_header inFlight job, rfl, releaseStation_ctl_final, releaseStation_ctl_other⟩
  case linePart =>
    intro l
    obtain ⟨status, refusal, output, ended, owner, ownerInForce⟩ := linePart_116 l
    exact ⟨linePart_length l, linePart_tag_unset l, fun t => linePart_tag_set l, linePart_words l,
      fun k inTrail e held past => eq_trailEntry l held past ▸ linePart_trailEntry l inTrail,
      linePart_88 l, linePart_92 l, linePart_104 l, linePart_halves l,
      ⟨status, refusal, output, ended, owner, ownerInForce, linePart_118 l⟩,
      (linePart_119 l).trans (formatInForce_eq _), linePart_120 l, linePart_noOutcome l,
      fun o => linePart_someOutcome l⟩
  case headerPart =>
    intro s
    obtain ⟨part, inUse, loadResult, loadBlock, lockSet, interval, lastTime⟩ := headerPart_station s
    exact ⟨headerPart_length s, part, inUse, loadResult, loadBlock, lockSet, interval, lastTime,
      headerPart_tag_unset s, fun t => headerPart_tag_set s, headerPart_loadIndex s, headerPart_block s,
      fun k reserved => congrArg BitVec.toNat (headerPart_zero s reserved), registers_read⟩
  case codes =>
    exact ⟨rfl, rfl, rfl, rfl, rfl, rfl, rfl, ⟨rfl, rfl, fun _ => rfl⟩, rfl, rfl, rfl, rfl, rfl, rfl, rfl, rfl, rfl, rfl,
      rfl, rfl, rfl⟩

end Sys2Proof.Machine
end
